-- ==== Sys2Proof/Word.lean ====
section
/-! DEFINITION. The plain value types of H264RTP: bytes, byte sequences, timestamps, command words, event codes
(00_scope.md section 5.1; 20_memory.md R30). -/

namespace Sys2Proof

/-- A byte; bit 7 is the most significant (00_scope.md section 5.1). -/
abbrev Byte := BitVec 8

/-- A buffer: a finite sequence of bytes, a value without identity (20_memory.md R30). -/
abbrev Bytes := List Byte

/-- A 32-bit RTP timestamp (TS_W, 00_scope.md section 4). -/
abbrev Timestamp := BitVec 32

/-- The host's command word: op in bits 34:32, arg in bits 31:0 (30_encoding.md R66). -/
abbrev CommandWord := BitVec 35

/-- An event code (EVT_CODE_W = 4, 60_exceptions.md R150). -/
abbrev EventCode := BitVec 4

end Sys2Proof
end

