-- ==== Sys2Proof/Machine/Operands.lean ====
section
/-! DEFINITION. The operand forms: the fields of a header byte, the header bytes the block builds, the STAP-A size prefix and
the payload classes (30_encoding.md R50 to R60). -/

namespace Sys2Proof.Machine

/-- F(h) = h[7] (R50). -/
def nalF (h : Byte) : BitVec 1 := h.extractLsb' 7 1

/-- NRI(h) = h[6:5] (R50). -/
def nalNri (h : Byte) : BitVec 2 := h.extractLsb' 5 2

/-- TYPE(h) = h[4:0] (R50). -/
def nalType (h : Byte) : BitVec 5 := h.extractLsb' 0 5

/-- A header-shaped byte with all three fields given (R50). -/
def headerByte (f : BitVec 1) (nri : BitVec 2) (ty : BitVec 5) : Byte := f ++ nri ++ ty

/-- HDR(nri, type) = nri * 32 + type: the header bytes the block builds have bit 7 = 0 (R51). -/
def hdr (nri : BitVec 2) (ty : BitVec 5) : Byte := headerByte 0 nri ty

/-- The header byte of a NAL unit or payload. Every use is on a buffer already known to be non-empty (R87, R132). -/
def firstByte (b : Bytes) : Byte := b.headD 0

/-- BE16(v): most significant byte first (R36, R57). Applied only to values below 65536 (R98). -/
def be16 (v : Nat) : Bytes := [BitVec.ofNat 8 (v / 256), BitVec.ofNat 8 (v % 256)]

/-- be16(b, p) of the two bytes at p and p + 1 (R36, R57). -/
def readBe16 (hi lo : Byte) : Nat := hi.toNat * 256 + lo.toNat

/-- The three wire shapes (R53). -/
inductive PayloadClass where
  | stapA
  | fuA
  | single
deriving DecidableEq, Repr

/-- CLASS(b), decided by TYPE(b[0]) alone (R53, R115). -/
def classOf (h : Byte) : PayloadClass :=
  if nalType h = 24 then .stapA else if nalType h = 28 then .fuA else .single

/-- The slice b[lo..hi) (00_scope.md section 5.1). -/
def slice (b : Bytes) (lo hi : Nat) : Bytes := (b.drop lo).take (hi - lo)

end Sys2Proof.Machine
end

