-- ==== Sys2Proof/Machine/Flags.lean ====
section
/-! DEFINITION. The 1-bit values the block handles: the S and E bits of an FU header (30_encoding.md R61 to R63) and the
marker of a payload record (10_state.md R20). There is no status-flag register. The event codes stand here too (R151). -/

namespace Sys2Proof.Machine

/-- S(h) = h[7] (R61). -/
def fuStart (h : Byte) : Bool := h.getLsbD 7

/-- E(h) = h[6] (R61). -/
def fuEnd (h : Byte) : Bool := h.getLsbD 6

/-- FTYPE(h) = h[4:0] (R61). -/
def fuType (h : Byte) : BitVec 5 := h.extractLsb' 0 5

/-- Bit 5 of an FU header: ignored on receipt, written 0 (R62). -/
def fuBit5 (h : Byte) : BitVec 1 := h.extractLsb' 5 1

/-- An FU header byte with all four fields given (R61). -/
def fuHeaderByte (s e r : BitVec 1) (ty : BitVec 5) : Byte := s ++ e ++ r ++ ty

/-- The FU header the fragmenter writes: bit 5 is 0 (R62, R102). -/
def fuHdr (start stop : Bool) (ty : BitVec 5) : Byte :=
  fuHeaderByte (BitVec.ofBool start) (BitVec.ofBool stop) 0 ty

/-- Marker of the unit with `rest` still queued behind it: 1 exactly on the last (R83, R97). -/
def lastMarker (rest : List Bytes) : Bool := rest.isEmpty

/-- Code of EV_BAD_MODE (R151, R152). -/
def codeBadMode : EventCode := 1
/-- Code of EV_OVERSIZE (R151, R153). -/
def codeOversize : EventCode := 2
/-- Code of EV_STAPA_MALFORMED (R151, R154). -/
def codeStapAMalformed : EventCode := 3
/-- Code of EV_FUA_NESTED_START (R151, R155). -/
def codeFuANestedStart : EventCode := 4
/-- Code of EV_FUA_NO_START (R151, R156). -/
def codeFuANoStart : EventCode := 5
/-- Code of EV_FUA_DISCONTINUED (R151, R157). -/
def codeFuADiscontinued : EventCode := 6

end Sys2Proof.Machine
end

