-- ==== Sys2Proof/Syntax.lean ====
section
/-! DEFINITION. The instructions: one constructor per row of spec/opcode_table.json.
Only the eight command rows are fetched by the machine (30_encoding.md R66, R67); the other rows name what a command does
inside: the branches of `pack` (R81), the payload classes of `unpack` (R53, R115), the FU-A fragments (R63), the field
layouts and the events. -/

namespace Sys2Proof

/-- One constructor per row of spec/opcode_table.json. `f` and `nri` are bits 7 and 6:5 of a payload's byte 0, `rest` the
payload's bytes from offset 1 on, `data` an FU-A payload's bytes from offset 2 on. -/
inductive Instr where
  /-- `init` (R140); its `arg` is ignored (R67). -/
  | init (arg : BitVec 32)
  /-- `set_mode` (R141): `arg` is the new mode. -/
  | setMode (arg : BitVec 32)
  /-- `enable_stap_a` (R142): `arg` is a boolean, 0 is false. -/
  | enableStapA (arg : BitVec 32)
  /-- `set_max_payload_size` (R143): `arg` is the new size. -/
  | setMaxPayloadSize (arg : BitVec 32)
  /-- `pack` (R80): `arg` is the RTP timestamp. -/
  | pack (ts : Timestamp)
  /-- `unpack` (R110); its `arg` is ignored (R67). -/
  | unpack (arg : BitVec 32)
  /-- `uninit` (R146); its `arg` is ignored (R67). -/
  | uninit (arg : BitVec 32)
  /-- `reserved_op7` (R148). -/
  | reservedOp7 (arg : BitVec 32)
  /-- `pack.mode0` (R83): the word of `pack` while CTX.mode = 0. -/
  | packMode0 (ts : Timestamp)
  /-- `pack.mode1` (R91): the word of `pack` while CTX.mode = 1. -/
  | packMode1 (ts : Timestamp)
  /-- `pack.bad_mode` (R82): the word of `pack` while CTX.mode is neither 0 nor 1. -/
  | packBadMode (ts : Timestamp)
  /-- `PAYLOAD.SINGLE_NAL.T0` (R127). -/
  | payloadSingleNalT0 (f : BitVec 1) (nri : BitVec 2) (rest : Bytes)
  /-- `PAYLOAD.SINGLE_NAL.T1` (R127). -/
  | payloadSingleNalT1 (f : BitVec 1) (nri : BitVec 2) (rest : Bytes)
  /-- `PAYLOAD.SINGLE_NAL.T2` (R127). -/
  | payloadSingleNalT2 (f : BitVec 1) (nri : BitVec 2) (rest : Bytes)
  /-- `PAYLOAD.SINGLE_NAL.T3` (R127). -/
  | payloadSingleNalT3 (f : BitVec 1) (nri : BitVec 2) (rest : Bytes)
  /-- `PAYLOAD.SINGLE_NAL.T4` (R127). -/
  | payloadSingleNalT4 (f : BitVec 1) (nri : BitVec 2) (rest : Bytes)
  /-- `PAYLOAD.SINGLE_NAL.T5` (R127). -/
  | payloadSingleNalT5 (f : BitVec 1) (nri : BitVec 2) (rest : Bytes)
  /-- `PAYLOAD.SINGLE_NAL.T6` (R127). -/
  | payloadSingleNalT6 (f : BitVec 1) (nri : BitVec 2) (rest : Bytes)
  /-- `PAYLOAD.SINGLE_NAL.T7` (R127). -/
  | payloadSingleNalT7 (f : BitVec 1) (nri : BitVec 2) (rest : Bytes)
  /-- `PAYLOAD.SINGLE_NAL.T8` (R127). -/
  | payloadSingleNalT8 (f : BitVec 1) (nri : BitVec 2) (rest : Bytes)
  /-- `PAYLOAD.SINGLE_NAL.T9` (R127). -/
  | payloadSingleNalT9 (f : BitVec 1) (nri : BitVec 2) (rest : Bytes)
  /-- `PAYLOAD.SINGLE_NAL.T10` (R127). -/
  | payloadSingleNalT10 (f : BitVec 1) (nri : BitVec 2) (rest : Bytes)
  /-- `PAYLOAD.SINGLE_NAL.T11` (R127). -/
  | payloadSingleNalT11 (f : BitVec 1) (nri : BitVec 2) (rest : Bytes)
  /-- `PAYLOAD.SINGLE_NAL.T12` (R127). -/
  | payloadSingleNalT12 (f : BitVec 1) (nri : BitVec 2) (rest : Bytes)
  /-- `PAYLOAD.SINGLE_NAL.T13` (R127). -/
  | payloadSingleNalT13 (f : BitVec 1) (nri : BitVec 2) (rest : Bytes)
  /-- `PAYLOAD.SINGLE_NAL.T14` (R127). -/
  | payloadSingleNalT14 (f : BitVec 1) (nri : BitVec 2) (rest : Bytes)
  /-- `PAYLOAD.SINGLE_NAL.T15` (R127). -/
  | payloadSingleNalT15 (f : BitVec 1) (nri : BitVec 2) (rest : Bytes)
  /-- `PAYLOAD.SINGLE_NAL.T16` (R127). -/
  | payloadSingleNalT16 (f : BitVec 1) (nri : BitVec 2) (rest : Bytes)
  /-- `PAYLOAD.SINGLE_NAL.T17` (R127). -/
  | payloadSingleNalT17 (f : BitVec 1) (nri : BitVec 2) (rest : Bytes)
  /-- `PAYLOAD.SINGLE_NAL.T18` (R127). -/
  | payloadSingleNalT18 (f : BitVec 1) (nri : BitVec 2) (rest : Bytes)
  /-- `PAYLOAD.SINGLE_NAL.T19` (R127). -/
  | payloadSingleNalT19 (f : BitVec 1) (nri : BitVec 2) (rest : Bytes)
  /-- `PAYLOAD.SINGLE_NAL.T20` (R127). -/
  | payloadSingleNalT20 (f : BitVec 1) (nri : BitVec 2) (rest : Bytes)
  /-- `PAYLOAD.SINGLE_NAL.T21` (R127). -/
  | payloadSingleNalT21 (f : BitVec 1) (nri : BitVec 2) (rest : Bytes)
  /-- `PAYLOAD.SINGLE_NAL.T22` (R127). -/
  | payloadSingleNalT22 (f : BitVec 1) (nri : BitVec 2) (rest : Bytes)
  /-- `PAYLOAD.SINGLE_NAL.T23` (R127). -/
  | payloadSingleNalT23 (f : BitVec 1) (nri : BitVec 2) (rest : Bytes)
  /-- `PAYLOAD.STAP_A`: an aggregation payload (R116). -/
  | payloadStapA (f : BitVec 1) (nri : BitVec 2) (rest : Bytes)
  /-- `PAYLOAD.SINGLE_NAL.T25` (R127). -/
  | payloadSingleNalT25 (f : BitVec 1) (nri : BitVec 2) (rest : Bytes)
  /-- `PAYLOAD.SINGLE_NAL.T26` (R127). -/
  | payloadSingleNalT26 (f : BitVec 1) (nri : BitVec 2) (rest : Bytes)
  /-- `PAYLOAD.SINGLE_NAL.T27` (R127). -/
  | payloadSingleNalT27 (f : BitVec 1) (nri : BitVec 2) (rest : Bytes)
  /-- `PAYLOAD.FU_A`: a fragment; the second byte selects the FU_A rows (R120). -/
  | payloadFuA (f : BitVec 1) (nri : BitVec 2) (rest : Bytes)
  /-- `PAYLOAD.SINGLE_NAL.T29` (R127). -/
  | payloadSingleNalT29 (f : BitVec 1) (nri : BitVec 2) (rest : Bytes)
  /-- `PAYLOAD.SINGLE_NAL.T30` (R127). -/
  | payloadSingleNalT30 (f : BitVec 1) (nri : BitVec 2) (rest : Bytes)
  /-- `PAYLOAD.SINGLE_NAL.T31` (R127). -/
  | payloadSingleNalT31 (f : BitVec 1) (nri : BitVec 2) (rest : Bytes)
  /-- `FU_A.START` (R121): S = 1, E = 0; `r` is bit 5 of the FU header, `ftype` its bits 4:0. -/
  | fuAStart (f : BitVec 1) (nri : BitVec 2) (r : BitVec 1) (ftype : BitVec 5) (data : Bytes)
  /-- `FU_A.MIDDLE` (R123): S = 0, E = 0; `r` is bit 5 of the FU header, `ftype` its bits 4:0. -/
  | fuAMiddle (f : BitVec 1) (nri : BitVec 2) (r : BitVec 1) (ftype : BitVec 5) (data : Bytes)
  /-- `FU_A.END` (R125): S = 0, E = 1; `r` is bit 5 of the FU header, `ftype` its bits 4:0. -/
  | fuAEnd (f : BitVec 1) (nri : BitVec 2) (r : BitVec 1) (ftype : BitVec 5) (data : Bytes)
  /-- `FU_A.START_END` (R126): S = 1, E = 1; `r` is bit 5 of the FU header, `ftype` its bits 4:0. -/
  | fuAStartEnd (f : BitVec 1) (nri : BitVec 2) (r : BitVec 1) (ftype : BitVec 5) (data : Bytes)
  /-- `FORMAT.NAL_HEADER` (R50): a field layout, not a selector. -/
  | formatNalHeader (f : BitVec 1) (nri : BitVec 2) (nalType : BitVec 5)
  /-- `FORMAT.STAP_A_HEADER` (R56): the byte as `pack` generates it, F written 0. -/
  | formatStapAHeader (f : BitVec 1) (nri : BitVec 2)
  /-- `FORMAT.STAP_A_SIZE` (R57): a field layout, not a selector. -/
  | formatStapASize (size : BitVec 16)
  /-- `FORMAT.FU_INDICATOR` (R60): the byte as `pack` generates it, F written 0. -/
  | formatFuIndicator (f : BitVec 1) (nri : BitVec 2)
  /-- `FORMAT.FU_HEADER` (R61, R62): a field layout, not a selector; bit 5 written 0. -/
  | formatFuHeader (s : BitVec 1) (e : BitVec 1) (r : BitVec 1) (ftype : BitVec 5)
  /-- `EV_BAD_MODE` (R152). -/
  | evBadMode
  /-- `EV_OVERSIZE` (R153). -/
  | evOversize
  /-- `EV_STAPA_MALFORMED` (R154). -/
  | evStapAMalformed
  /-- `EV_FUA_NESTED_START` (R155). -/
  | evFuANestedStart
  /-- `EV_FUA_NO_START` (R156). -/
  | evFuANoStart
  /-- `EV_FUA_DISCONTINUED` (R157). -/
  | evFuADiscontinued
deriving DecidableEq, Repr

end Sys2Proof
end

