-- ==== Sys2Proof/WellFormed.lean ====
section
/-! DEFINITION. Which terms of `Instr` are instructions of the table. The widths of the operands are in their types, so
few checks remain: the bits that the table's generated bytes fix at 0, and the second byte that an FU-A payload needs. -/

namespace Sys2Proof

/-- Why a term is no instruction of the table. -/
inductive IllFormed where
  /-- An FU-A payload of one byte has no FU header (R132; the table's note: needs len >= 2). -/
  | fuAWithoutHeader
  /-- A generated STAP-A header or FU indicator has bit 7 = 0 (R51). -/
  | forbiddenBitSet
  /-- A generated FU header has bit 5 = 0 (R62). -/
  | bit5Set
deriving DecidableEq, Repr

/-- The check that a term fails, if any. -/
def Instr.problem? : Instr → Option IllFormed
  | .payloadFuA _ _ rest => if rest = [] then some .fuAWithoutHeader else none
  | .formatStapAHeader f _ => if f = 0 then none else some .forbiddenBitSet
  | .formatFuIndicator f _ => if f = 0 then none else some .forbiddenBitSet
  | .formatFuHeader _ _ r _ => if r = 0 then none else some .bit5Set
  | _ => none

/-- The term is an instruction of the table. -/
def Instr.WellFormed (i : Instr) : Bool := i.problem?.isNone

end Sys2Proof
end

