-- ==== Sys2Proof/Decode.lean ====
section
/-! DEFINITION. Reading the rows of spec/opcode_table.json from their words, and writing them back (30_encoding.md). Each of
the table's formats is a word space of its own: the same bits are a different row in another format (log entry 8). -/

namespace Sys2Proof

open Sys2Proof.Machine

/-- Why some bits are no instruction. -/
inductive DecodeError where
  /-- An empty payload has no class (R53, R132). -/
  | emptyPayload
  /-- An FU-A payload of one byte has no FU header (R132). -/
  | fuAWithoutHeader
  /-- Bytes of an FU_A row whose byte 0 is not of type 28 (R59). -/
  | notFuA
  /-- A command word other than `pack`'s read as one of the three `pack` rows (R81). -/
  | notPack
  /-- A generated header byte of another type than the row's (R56, R60). -/
  | wrongType
  /-- A generated header byte with bit 7 set (R51). -/
  | forbiddenBitSet
  /-- A generated FU header with bit 5 set (R62). -/
  | bit5Set
  /-- A size prefix that is not two bytes (R57). -/
  | notTwoBytes
  /-- Event codes 0 and 7..15 are never pushed (R151). -/
  | noSuchEvent
deriving DecidableEq, Repr

/-- The command word {op, arg} (R66). -/
def commandWord (op : BitVec 3) (arg : BitVec 32) : CommandWord := op ++ arg

/-- op = bits 34:32 (R66). -/
def commandOp (w : CommandWord) : BitVec 3 := w.extractLsb' 32 3

/-- arg = bits 31:0 (R66). -/
def commandArg (w : CommandWord) : BitVec 32 := w.extractLsb' 0 32

/-- The command port's decoder: every 35-bit word is one of the eight rows of R67. -/
def decodeCommand (w : CommandWord) : Instr :=
  match (commandOp w).toNat with
  | 0 => .init (commandArg w)
  | 1 => .setMode (commandArg w)
  | 2 => .enableStapA (commandArg w)
  | 3 => .setMaxPayloadSize (commandArg w)
  | 4 => .pack (commandArg w)
  | 5 => .unpack (commandArg w)
  | 6 => .uninit (commandArg w)
  | _ => .reservedOp7 (commandArg w)   -- op is 3 bits wide, so this is 7 alone (R148)

/-- The `pack` row that a `pack` word selects while CTX.mode = `mode` (R81). -/
def decodePackRow (w : CommandWord) (mode : BitVec 32) : Except DecodeError Instr :=
  if commandOp w = 4 then
    if mode = 0 then .ok (.packMode0 (commandArg w))
    else if mode = 1 then .ok (.packMode1 (commandArg w))
    else .ok (.packBadMode (commandArg w))
  else .error .notPack

/-- The row of a payload whose byte 0 has the type `ty` (R53, R58). -/
def payloadRow (ty : BitVec 5) (f : BitVec 1) (nri : BitVec 2) (rest : Bytes) : Instr :=
  match ty.toNat with
  | 0 => .payloadSingleNalT0 f nri rest
  | 1 => .payloadSingleNalT1 f nri rest
  | 2 => .payloadSingleNalT2 f nri rest
  | 3 => .payloadSingleNalT3 f nri rest
  | 4 => .payloadSingleNalT4 f nri rest
  | 5 => .payloadSingleNalT5 f nri rest
  | 6 => .payloadSingleNalT6 f nri rest
  | 7 => .payloadSingleNalT7 f nri rest
  | 8 => .payloadSingleNalT8 f nri rest
  | 9 => .payloadSingleNalT9 f nri rest
  | 10 => .payloadSingleNalT10 f nri rest
  | 11 => .payloadSingleNalT11 f nri rest
  | 12 => .payloadSingleNalT12 f nri rest
  | 13 => .payloadSingleNalT13 f nri rest
  | 14 => .payloadSingleNalT14 f nri rest
  | 15 => .payloadSingleNalT15 f nri rest
  | 16 => .payloadSingleNalT16 f nri rest
  | 17 => .payloadSingleNalT17 f nri rest
  | 18 => .payloadSingleNalT18 f nri rest
  | 19 => .payloadSingleNalT19 f nri rest
  | 20 => .payloadSingleNalT20 f nri rest
  | 21 => .payloadSingleNalT21 f nri rest
  | 22 => .payloadSingleNalT22 f nri rest
  | 23 => .payloadSingleNalT23 f nri rest
  | 24 => .payloadStapA f nri rest
  | 25 => .payloadSingleNalT25 f nri rest
  | 26 => .payloadSingleNalT26 f nri rest
  | 27 => .payloadSingleNalT27 f nri rest
  | 28 => .payloadFuA f nri rest
  | 29 => .payloadSingleNalT29 f nri rest
  | 30 => .payloadSingleNalT30 f nri rest
  | _ => .payloadSingleNalT31 f nri rest   -- TYPE is 5 bits wide, so this is 31 alone

/-- A payload's row, by byte 0 (R53, R115). -/
def decodePayload : Bytes → Except DecodeError Instr
  | [] => .error .emptyPayload
  | h :: rest =>
    if nalType h = 28 ∧ rest = [] then .error .fuAWithoutHeader
    else .ok (payloadRow (nalType h) (nalF h) (nalNri h) rest)

/-- The row of an FU-A payload, by the S and E bits of byte 1 (R63). -/
def fuARow (s e : Bool) (f : BitVec 1) (nri : BitVec 2) (r : BitVec 1) (ftype : BitVec 5) (data : Bytes) : Instr :=
  match s, e with
  | true, false => .fuAStart f nri r ftype data
  | false, false => .fuAMiddle f nri r ftype data
  | false, true => .fuAEnd f nri r ftype data
  | true, true => .fuAStartEnd f nri r ftype data

/-- An FU-A payload read as one of the four FU_A rows (R59, R63). -/
def decodeFuA : Bytes → Except DecodeError Instr
  | [] => .error .emptyPayload
  | ind :: b =>
    if nalType ind = 28 then
      match b with
      | [] => .error .fuAWithoutHeader
      | fh :: data => .ok (fuARow (fuStart fh) (fuEnd fh) (nalF ind) (nalNri ind) (fuBit5 fh) (fuType fh) data)
    else .error .notFuA

/-- A generated STAP-A header byte: type 24, bit 7 = 0 (R51, R56). -/
def decodeStapAHeader (b : Byte) : Except DecodeError Instr :=
  if nalType b ≠ 24 then .error .wrongType
  else if nalF b ≠ 0 then .error .forbiddenBitSet
  else .ok (.formatStapAHeader (nalF b) (nalNri b))

/-- A generated FU indicator byte: type 28, bit 7 = 0 (R51, R60). -/
def decodeFuIndicator (b : Byte) : Except DecodeError Instr :=
  if nalType b ≠ 28 then .error .wrongType
  else if nalF b ≠ 0 then .error .forbiddenBitSet
  else .ok (.formatFuIndicator (nalF b) (nalNri b))

/-- A generated FU header byte: bit 5 = 0 (R61, R62). -/
def decodeFuHeader (b : Byte) : Except DecodeError Instr :=
  if fuBit5 b ≠ 0 then .error .bit5Set
  else .ok (.formatFuHeader (b.extractLsb' 7 1) (b.extractLsb' 6 1) (fuBit5 b) (fuType b))

/-- A size prefix, big-endian (R57). -/
def decodeStapASize : Bytes → Except DecodeError Instr
  | [hi, lo] => .ok (.formatStapASize (hi ++ lo))
  | _ => .error .notTwoBytes

/-- An event code (R151). -/
def decodeEvent (c : EventCode) : Except DecodeError Instr :=
  match c.toNat with
  | 1 => .ok .evBadMode
  | 2 => .ok .evOversize
  | 3 => .ok .evStapAMalformed
  | 4 => .ok .evFuANestedStart
  | 5 => .ok .evFuANoStart
  | 6 => .ok .evFuADiscontinued
  | _ => .error .noSuchEvent

/-- The words of a row, tagged with the format of spec/opcode_table.json they are written in. -/
inductive Encoded where
  /-- CMD35. -/
  | command (w : CommandWord)
  /-- CMD35+CTX.mode: the word, and the mode that selects the row. -/
  | commandInMode (w : CommandWord) (mode : BitVec 32)
  /-- PAYLOAD_B0, with the payload's other bytes. -/
  | payload (b : Bytes)
  /-- FU_A16, with the payload's other bytes. -/
  | fuA (b : Bytes)
  /-- BYTE, as a NAL header (R50). -/
  | nalHeader (b : Byte)
  /-- BYTE, as a generated STAP-A header (R56). -/
  | stapAHeader (b : Byte)
  /-- BE16: a size prefix (R57). -/
  | stapASize (b : Bytes)
  /-- BYTE, as a generated FU indicator (R60). -/
  | fuIndicator (b : Byte)
  /-- BYTE, as an FU header (R61). -/
  | fuHeader (b : Byte)
  /-- EVT4. -/
  | event (c : EventCode)
deriving DecidableEq, Repr

/-- The decoder of all formats together. -/
def decode : Encoded → Except DecodeError Instr
  | .command w => .ok (decodeCommand w)
  | .commandInMode w mode => decodePackRow w mode
  | .payload b => decodePayload b
  | .fuA b => decodeFuA b
  | .nalHeader b => .ok (.formatNalHeader (nalF b) (nalNri b) (nalType b))
  | .stapAHeader b => decodeStapAHeader b
  | .stapASize b => decodeStapASize b
  | .fuIndicator b => decodeFuIndicator b
  | .fuHeader b => decodeFuHeader b
  | .event c => decodeEvent c

/-- The bytes of a payload: byte 0 with its fields, then the rest (R50, R53). -/
def payloadBytes (ty : BitVec 5) (f : BitVec 1) (nri : BitVec 2) (rest : Bytes) : Bytes :=
  headerByte f nri ty :: rest

/-- The bytes of an FU-A payload: indicator, FU header, data (R59). -/
def fuABytes (s e : BitVec 1) (f : BitVec 1) (nri : BitVec 2) (r : BitVec 1) (ftype : BitVec 5) (data : Bytes) : Bytes :=
  headerByte f nri 28 :: fuHeaderByte s e r ftype :: data

/-- The encoder: the words of an instruction, from the same tables. `packBadMode` is written with mode 2, one of the 2^32 - 2
values that select it. -/
def encode : Instr → Encoded
  | .init arg => .command (commandWord 0 arg)
  | .setMode arg => .command (commandWord 1 arg)
  | .enableStapA arg => .command (commandWord 2 arg)
  | .setMaxPayloadSize arg => .command (commandWord 3 arg)
  | .pack ts => .command (commandWord 4 ts)
  | .unpack arg => .command (commandWord 5 arg)
  | .uninit arg => .command (commandWord 6 arg)
  | .reservedOp7 arg => .command (commandWord 7 arg)
  | .packMode0 ts => .commandInMode (commandWord 4 ts) 0
  | .packMode1 ts => .commandInMode (commandWord 4 ts) 1
  | .packBadMode ts => .commandInMode (commandWord 4 ts) 2
  | .payloadSingleNalT0 f nri rest => .payload (payloadBytes 0 f nri rest)
  | .payloadSingleNalT1 f nri rest => .payload (payloadBytes 1 f nri rest)
  | .payloadSingleNalT2 f nri rest => .payload (payloadBytes 2 f nri rest)
  | .payloadSingleNalT3 f nri rest => .payload (payloadBytes 3 f nri rest)
  | .payloadSingleNalT4 f nri rest => .payload (payloadBytes 4 f nri rest)
  | .payloadSingleNalT5 f nri rest => .payload (payloadBytes 5 f nri rest)
  | .payloadSingleNalT6 f nri rest => .payload (payloadBytes 6 f nri rest)
  | .payloadSingleNalT7 f nri rest => .payload (payloadBytes 7 f nri rest)
  | .payloadSingleNalT8 f nri rest => .payload (payloadBytes 8 f nri rest)
  | .payloadSingleNalT9 f nri rest => .payload (payloadBytes 9 f nri rest)
  | .payloadSingleNalT10 f nri rest => .payload (payloadBytes 10 f nri rest)
  | .payloadSingleNalT11 f nri rest => .payload (payloadBytes 11 f nri rest)
  | .payloadSingleNalT12 f nri rest => .payload (payloadBytes 12 f nri rest)
  | .payloadSingleNalT13 f nri rest => .payload (payloadBytes 13 f nri rest)
  | .payloadSingleNalT14 f nri rest => .payload (payloadBytes 14 f nri rest)
  | .payloadSingleNalT15 f nri rest => .payload (payloadBytes 15 f nri rest)
  | .payloadSingleNalT16 f nri rest => .payload (payloadBytes 16 f nri rest)
  | .payloadSingleNalT17 f nri rest => .payload (payloadBytes 17 f nri rest)
  | .payloadSingleNalT18 f nri rest => .payload (payloadBytes 18 f nri rest)
  | .payloadSingleNalT19 f nri rest => .payload (payloadBytes 19 f nri rest)
  | .payloadSingleNalT20 f nri rest => .payload (payloadBytes 20 f nri rest)
  | .payloadSingleNalT21 f nri rest => .payload (payloadBytes 21 f nri rest)
  | .payloadSingleNalT22 f nri rest => .payload (payloadBytes 22 f nri rest)
  | .payloadSingleNalT23 f nri rest => .payload (payloadBytes 23 f nri rest)
  | .payloadStapA f nri rest => .payload (payloadBytes 24 f nri rest)
  | .payloadSingleNalT25 f nri rest => .payload (payloadBytes 25 f nri rest)
  | .payloadSingleNalT26 f nri rest => .payload (payloadBytes 26 f nri rest)
  | .payloadSingleNalT27 f nri rest => .payload (payloadBytes 27 f nri rest)
  | .payloadFuA f nri rest => .payload (payloadBytes 28 f nri rest)
  | .payloadSingleNalT29 f nri rest => .payload (payloadBytes 29 f nri rest)
  | .payloadSingleNalT30 f nri rest => .payload (payloadBytes 30 f nri rest)
  | .payloadSingleNalT31 f nri rest => .payload (payloadBytes 31 f nri rest)
  | .fuAStart f nri r ftype data => .fuA (fuABytes 1 0 f nri r ftype data)
  | .fuAMiddle f nri r ftype data => .fuA (fuABytes 0 0 f nri r ftype data)
  | .fuAEnd f nri r ftype data => .fuA (fuABytes 0 1 f nri r ftype data)
  | .fuAStartEnd f nri r ftype data => .fuA (fuABytes 1 1 f nri r ftype data)
  | .formatNalHeader f nri ty => .nalHeader (headerByte f nri ty)
  | .formatStapAHeader f nri => .stapAHeader (headerByte f nri 24)
  | .formatStapASize size => .stapASize (be16 size.toNat)
  | .formatFuIndicator f nri => .fuIndicator (headerByte f nri 28)
  | .formatFuHeader s e r ftype => .fuHeader (fuHeaderByte s e r ftype)
  | .evBadMode => .event codeBadMode
  | .evOversize => .event codeOversize
  | .evStapAMalformed => .event codeStapAMalformed
  | .evFuANestedStart => .event codeFuANestedStart
  | .evFuANoStart => .event codeFuANoStart
  | .evFuADiscontinued => .event codeFuADiscontinued

/-- The command word of a command row; of a `pack` row, `pack`'s; none for a row that is no command. -/
def encodeCommand (i : Instr) : Option CommandWord :=
  match encode i with
  | .command w => some w
  | .commandInMode w _ => some w
  | _ => none

/-- The payload that a table word of 8 or 16 bits is part of, every bit beyond it 0. A 16-bit word is written byte 0 first,
most significant (the table's note on FU_A16; R57). A byte of type 28 is followed by the FU header it needs (R132); a 16-bit
word that is no FU-A payload is a size prefix, which stands behind a STAP-A header (R55). -/
def tablePayload (nbits w : Nat) : Bytes :=
  if nbits ≤ 8 then
    let b := BitVec.ofNat 8 w
    if nalType b = 28 then [b, 0] else [b]
  else
    let hi := BitVec.ofNat 8 (w / 256)
    let lo := BitVec.ofNat 8 w
    if nalType hi = 28 then [hi, lo] else [headerByte 0 0 24, hi, lo]

/-- The instruction read from an instruction whose bits are `w`, by its width (log entry 8): more than 16 bits are a command
word (bits above 34 must be 0); 16 bits are the first two bytes of an FU-A payload, or a size prefix; 8 bits are byte 0 of a
payload. -/
def decodeTableWord (nbits w : Nat) : Option Instr :=
  if 16 < nbits then
    if w < 2 ^ 35 then some (decodeCommand (BitVec.ofNat 35 w)) else none
  else if w < 2 ^ nbits then
    if nbits ≤ 8 then (decodePayload (tablePayload nbits w)).toOption
    else if nalType (BitVec.ofNat 8 (w / 256)) = 28 then (decodeFuA (tablePayload nbits w)).toOption
    else (decodeStapASize ((tablePayload nbits w).drop 1)).toOption
  else none

end Sys2Proof
end

