-- ==== Sys2Proof/Machine/State.lean ====
section
/-! DEFINITION. The state of one H264RTP instance: the Context (10_state.md R10), the host's five queues as the block sees them
(R22; 20_memory.md R33), and two fields of the model's own (the command port's queue and the instance's storage capacities). The
reasons a step can stop, and the state after reset. -/

namespace Sys2Proof.Machine

/-- One entry of RTP_OUT or RTP_IN: a payload with its two metadata items (20_memory.md R33, R37). -/
structure RtpRecord where
  bytes  : Bytes
  ts     : Timestamp
  marker : Bool
deriving DecidableEq, Repr

/-- The storage of an instance; `none` is unbounded (00_scope.md section 4; 20_memory.md R44; log entry 7). -/
structure Capacities where
  /-- NAL_MAX_LEN, in bytes. -/
  nalMaxLen      : Option Nat
  /-- PENDING_CAP, in entries. -/
  pendingEntries : Option Nat
  /-- PENDING_CAP, in bytes. -/
  pendingBytes   : Option Nat
  /-- REASM_CAP, in bytes. -/
  reasmBytes     : Option Nat
deriving DecidableEq, Repr

/-- The machine. Queues hold their oldest entry first (20_memory.md R34). -/
structure State where
  /-- CTX.live (R11). -/
  live           : Bool
  /-- CTX.mode (R12). -/
  mode           : BitVec 32
  /-- CTX.max_payload_size (R13). -/
  maxPayloadSize : BitVec 16
  /-- CTX.stap_a_allowed (R14). -/
  stapAAllowed   : Bool
  /-- CTX.last_timestamp (R15). -/
  lastTimestamp  : Timestamp
  /-- CTX.reasm (R16). -/
  reasm          : Option Bytes
  /-- CTX.pending (R17). -/
  pending        : List Bytes
  /-- NALU_IN (R33). -/
  naluIn         : List Bytes
  /-- RTP_OUT (R33). -/
  rtpOut         : List RtpRecord
  /-- RTP_IN (R33). -/
  rtpIn          : List RtpRecord
  /-- NALU_OUT (R33). -/
  naluOut        : List Bytes
  /-- EVT_OUT (R33, R150). -/
  evtOut         : List EventCode
  /-- The model's own: command words issued and not yet executed (R40, R66; log entry 1). -/
  cmdIn          : List CommandWord
  /-- The model's own: the instance's capacities, which no step writes (R44; log entry 7). -/
  caps           : Capacities
deriving DecidableEq, Repr

/-- The block has no trap and no fault: every error is logged and the command goes on (60_exceptions.md R150, R158). So no
meaning ever answers a fault, and the type is empty; nothing raises one, which is safe. -/
inductive Fault where
deriving DecidableEq, Repr

/-- A refusal is no event: the input has no behaviour in the spec and the step no successor (60_exceptions.md R161). All are safe:
nothing can be proved about what the hardware does there. -/
inductive Refusal where
  /-- Raised by exec alone, for an instruction without a meaning; no instruction is left so. Safe. -/
  | notModelled (mnemonic : String)
  /-- Any command but `init`, and any row run inside `pack` or `unpack`, while CTX.live = 0 (R145, R11). Safe. -/
  | noContext
  /-- Command op = 7 (R148). Safe. -/
  | reservedOpcode
  /-- `set_max_payload_size` with 0 or more than 65535 (R143). Safe. -/
  | sizeOutOfRange
  /-- `pack` in mode 0 or 1 with an empty NAL unit queued (R87). Safe. -/
  | emptyNalUnit
  /-- `pack` in mode 1 reaching the fragmenter with M < 3 (R104). Safe. -/
  | cannotFragment
  /-- `unpack` with RTP_IN empty (R110). Safe. -/
  | noPayload
  /-- `unpack` of an empty payload (R132). Safe. -/
  | emptyPayload
  /-- `unpack` of the single byte of an FU indicator (R132). Safe. -/
  | fuAWithoutHeader
  /-- A buffer or CTX.pending or CTX.reasm would exceed its capacity (R44). Safe. -/
  | overCapacity
  /-- A `pack.mode0`, `pack.mode1` or `pack.bad_mode` row in a mode that does not select it (R81; log entry 9). Safe. -/
  | packRowNotSelected
  /-- A FORMAT row: a field layout, which the spec gives no effect as an instruction (log entry 10). Safe. -/
  | fieldLayout
deriving DecidableEq, Repr

/-- What a meaning answers. -/
abbrev Result := Host.Outcome State Fault Refusal

/-- Capacities without bound (R44: which a model may take as unbounded). -/
def Capacities.unbounded : Capacities :=
  { nalMaxLen := none, pendingEntries := none, pendingBytes := none, reasmBytes := none }

/-- The instance right after hardware reset (R25, R170): no Context. DESIGN CHOICE, unsafe: the four fields that R25 leaves
unspecified (log entry 3), the host's queues (log entry 4), the command port (log entry 1), the capacities (log entry 7). -/
def State.reset : State :=
  { live := false
    mode := 0
    maxPayloadSize := 1
    stapAAllowed := false
    lastTimestamp := 0
    reasm := none
    pending := []
    naluIn := []
    rtpOut := []
    rtpIn := []
    naluOut := []
    evtOut := []
    cmdIn := []
    caps := Capacities.unbounded }

end Sys2Proof.Machine
end

