-- ==== Sys2Proof/Machine/Ops.lean ====
section
/-! DEFINITION. The named operations on the state that the commands share: the queue primitives of 00_scope.md section 5.3, the
event mechanism (60_exceptions.md R150), FLUSH (42_unpack.md R112), the capacity checks (20_memory.md R44), the command port, and
what the host may do between commands. The block takes no exception and returns from none (R158, R159): raising an event,
`pushEvent`, is the whole of its error mechanism, and the command goes on after it. -/

namespace Sys2Proof.Machine

/-- event(code): push one code on EVT_OUT and go on (R150). -/
def pushEvent (c : EventCode) (s : State) : State := { s with evtOut := s.evtOut ++ [c] }

/-- The events of one command, in the order raised (R160). -/
def pushEvents (cs : List EventCode) (s : State) : State := { s with evtOut := s.evtOut ++ cs }

/-- The emit calls of one command, in order (00_scope.md section 5.3; R34). -/
def emitRecords (rs : List RtpRecord) (s : State) : State := { s with rtpOut := s.rtpOut ++ rs }

/-- Pop every entry of NALU_IN (R83, R91). -/
def drainNaluIn (s : State) : State := { s with naluIn := [] }

/-- Append NAL units to CTX.pending (R17). -/
def pushPending (units : List Bytes) (s : State) : State := { s with pending := s.pending ++ units }

/-- CTX.reasm <- r (R16). -/
def setReasm (r : Option Bytes) (s : State) : State := { s with reasm := r }

/-- CTX.last_timestamp <- ts (R15). -/
def setLastTimestamp (ts : Timestamp) (s : State) : State := { s with lastTimestamp := ts }

/-- FLUSH(): move CTX.pending to NALU_OUT, oldest first; CTX.reasm is untouched (R112). -/
def flush (s : State) : State := { s with naluOut := s.naluOut ++ s.pending, pending := [] }

/-- The command's other lines run only while there is a Context (R145, R11). -/
def whileLive (s : State) (k : Result) : Result := if s.live then k else .refused .noContext

/-- Go on from the state a part of a command leaves. -/
def thenNext (r : Result) (f : State → State) : Result :=
  match r with
  | .next s => .next (f s)
  | .fault e => .fault e
  | .refused e => .refused e

/-- A size is within one capacity (R44). -/
def withinCap (cap : Option Nat) (n : Nat) : Bool :=
  match cap with
  | none => true
  | some c => decide (n ≤ c)

/-- A port accepts a NAL unit or payload of this length (NAL_MAX_LEN, R44). -/
def admitsLength (caps : Capacities) (n : Nat) : Bool := withinCap caps.nalMaxLen n

/-- How many bytes a queue of NAL units holds. -/
def totalBytes (q : List Bytes) : Nat := (q.map List.length).sum

/-- Pushing these units, if any, leaves CTX.pending within PENDING_CAP and each of them within NAL_MAX_LEN (R44). -/
def pendingAdmits (caps : Capacities) (q units : List Bytes) : Bool :=
  units.isEmpty ||
    (units.all (fun u => admitsLength caps u.length)
      && withinCap caps.pendingEntries (q ++ units).length
      && withinCap caps.pendingBytes (totalBytes (q ++ units)))

/-- CTX.reasm may hold this (REASM_CAP, R44). -/
def reasmAdmits (caps : Capacities) (r : Option Bytes) : Bool :=
  match r with
  | none => true
  | some b => withinCap caps.reasmBytes b.length

/-- The oldest command word of the port, and the state without it (R40, R66). -/
def fetchCommand (s : State) : Option (CommandWord × State) :=
  match s.cmdIn with
  | [] => none
  | w :: ws => some (w, { s with cmdIn := ws })

/-- The host issues a command word (R66). -/
def hostIssue (w : CommandWord) (s : State) : State := { s with cmdIn := s.cmdIn ++ [w] }

/-- The host queues a NAL unit for `pack` (R33, R35). -/
def hostPushNalu (n : Bytes) (s : State) : State := { s with naluIn := s.naluIn ++ [n] }

/-- The host queues a received payload for `unpack` (R33, R35). -/
def hostPushRtp (r : RtpRecord) (s : State) : State := { s with rtpIn := s.rtpIn ++ [r] }

/-- The host takes everything the block has produced (R175). -/
def hostTakeOutputs (s : State) : State := { s with rtpOut := [], naluOut := [], evtOut := [] }

/-- Hardware reset of a running instance, between commands (R170, R171): the Context is gone, the host's queues and the
capacities are as they were. `mode`, `size`, `stapA` and `ts` are whatever the unspecified fields then hold (log entry 13). -/
def hardwareReset (mode : BitVec 32) (size : BitVec 16) (stapA : Bool) (ts : Timestamp) (s : State) : State :=
  { s with
    live := false, reasm := none, pending := [],
    mode := mode, maxPayloadSize := size, stapAAllowed := stapA, lastTimestamp := ts }

/-- The two states of the depacketizer (R18). -/
inductive Depacketizer where
  | idle
  | reassemblingFuA
deriving DecidableEq, Repr

/-- `Idle` exactly when CTX.reasm is none (R18). -/
def depacketizer (s : State) : Depacketizer :=
  match s.reasm with
  | none => .idle
  | some _ => .reassemblingFuA

end Sys2Proof.Machine
end

