-- ==== Sys2Proof/Machine/Events.lean ====
section
/-! DEFINITION. The event rows: raising an event pushes its code on EVT_OUT and nothing else (60_exceptions.md R150 to R157; log
entry 11). -/

namespace Sys2Proof.Machine

/-- `EV_BAD_MODE` (R150, R152). -/
def execEvBadMode (s : State) : Result := .next (pushEvent codeBadMode s)

/-- `EV_OVERSIZE` (R150, R153). -/
def execEvOversize (s : State) : Result := .next (pushEvent codeOversize s)

/-- `EV_STAPA_MALFORMED` (R150, R154). -/
def execEvStapAMalformed (s : State) : Result := .next (pushEvent codeStapAMalformed s)

/-- `EV_FUA_NESTED_START` (R150, R155). -/
def execEvFuANestedStart (s : State) : Result := .next (pushEvent codeFuANestedStart s)

/-- `EV_FUA_NO_START` (R150, R156). -/
def execEvFuANoStart (s : State) : Result := .next (pushEvent codeFuANoStart s)

/-- `EV_FUA_DISCONTINUED` (R150, R157). -/
def execEvFuADiscontinued (s : State) : Result := .next (pushEvent codeFuADiscontinued s)

end Sys2Proof.Machine
end

