-- ==== Sys2Proof/Machine/Formats.lean ====
section
/-! DEFINITION. The FORMAT rows: field layouts of bytes inside payloads (30_encoding.md R50, R56, R57, R60, R61). The table says of
them that they are no selector; no rule gives one an effect of its own, so each stops by name (log entry 10). What the block does
with such bytes is in Machine/Pack.lean, where it writes them, and in Machine/Unpack.lean, where it reads them. -/

namespace Sys2Proof.Machine

/-- `FORMAT.NAL_HEADER` (R50): a layout. -/
def execFormatNalHeader (_f : BitVec 1) (_nri : BitVec 2) (_ty : BitVec 5) (_s : State) : Result :=
  .refused .fieldLayout

/-- `FORMAT.STAP_A_HEADER` (R56): a layout. -/
def execFormatStapAHeader (_f : BitVec 1) (_nri : BitVec 2) (_s : State) : Result := .refused .fieldLayout

/-- `FORMAT.STAP_A_SIZE` (R57): a layout. -/
def execFormatStapASize (_size : BitVec 16) (_s : State) : Result := .refused .fieldLayout

/-- `FORMAT.FU_INDICATOR` (R60): a layout. -/
def execFormatFuIndicator (_f : BitVec 1) (_nri : BitVec 2) (_s : State) : Result := .refused .fieldLayout

/-- `FORMAT.FU_HEADER` (R61): a layout. -/
def execFormatFuHeader (_s _e _r : BitVec 1) (_ftype : BitVec 5) (_st : State) : Result := .refused .fieldLayout

end Sys2Proof.Machine
end

