-- ==== Sys2Proof/Config.lean ====
section
/-! DEFINITION. The parameters whose value the source does not give and which the model must not assume
(00_scope.md section 4, R3; spec/92_eei_decisions.md D6, D7). Neither constant has a body: no proof can see its value, and a
theorem that names one holds for every value. -/

namespace Sys2Proof

/-- TS_SENTINEL: any 32-bit value (D6; log entry 6). -/
opaque Config.tsSentinel : Timestamp

/-- Any 16-bit value; `Config.defaultMaxPayloadSize` keeps it in its range (log entry 5). -/
opaque Config.anyDefaultSize : BitVec 16

/-- DEFAULT_MAX_PAYLOAD_SIZE: any value of 3..65535 (D7; log entry 5). Every such value is `Config.anyDefaultSize`'s own; the
three values below 3 stand for 3. -/
def Config.defaultMaxPayloadSize : BitVec 16 :=
  if Config.anyDefaultSize.toNat < 3 then 3 else Config.anyDefaultSize

end Sys2Proof
end

