-- ==== Sys2Proof/Machine/Lifecycle.lean ====
section
/-! DEFINITION. The Context's lifecycle and configuration commands (43_lifecycle.md). -/

namespace Sys2Proof.Machine

/-- `init` (R140, R147): accepted with or without a Context; what CTX.pending and CTX.reasm held is discarded. -/
def execInit (_arg : BitVec 32) (s : State) : Result :=
  .next { s with
    mode := 0
    stapAAllowed := true
    maxPayloadSize := Config.defaultMaxPayloadSize
    lastTimestamp := Config.tsSentinel
    pending := []
    reasm := none
    live := true }

/-- `set_mode` (R141): a pure setter, no event for any value. -/
def execSetMode (arg : BitVec 32) (s : State) : Result :=
  whileLive s (.next { s with mode := arg })

/-- `enable_stap_a` (R142): 0 is false, every other value true. -/
def execEnableStapA (arg : BitVec 32) (s : State) : Result :=
  whileLive s (.next { s with stapAAllowed := arg != 0 })

/-- `set_max_payload_size` (R143): refused unless 1..65535. -/
def execSetMaxPayloadSize (arg : BitVec 32) (s : State) : Result :=
  whileLive s
    (if arg.toNat = 0 ∨ 65535 < arg.toNat then .refused .sizeOutOfRange
     else .next { s with maxPayloadSize := arg.extractLsb' 0 16 })

/-- `uninit` (R146): CTX.pending and CTX.reasm are discarded, nothing is delivered; the configuration is not written. -/
def execUninit (_arg : BitVec 32) (s : State) : Result :=
  whileLive s (.next { s with pending := [], reasm := none, live := false })

/-- `reserved_op7` (R148): refused in every state. -/
def execReservedOp7 (_arg : BitVec 32) (_s : State) : Result := .refused .reservedOpcode

end Sys2Proof.Machine
end

