-- ==== Sys2Proof/Machine/Pack.lean ====
section
/-! DEFINITION. `pack` and its three rows: dispatch and Mode 0 (40_pack_dispatch_mode0.md), the Mode-1 aggregator and fragmenter
(41_pack_mode1.md). Sizes are mathematical integers (R99). -/

namespace Sys2Proof.Machine

/-- The Mode-0 payloads: each NAL unit unchanged, marker on the last (R83). -/
def mode0Records (ts : Timestamp) : List Bytes → List RtpRecord
  | [] => []
  | n :: rest => { bytes := n, ts := ts, marker := lastMarker rest } :: mode0Records ts rest

/-- One EV_OVERSIZE for each NAL unit longer than M, in order (R84, R153). -/
def mode0Events (M : Nat) : List Bytes → List EventCode
  | [] => []
  | n :: rest => if M < n.length then codeOversize :: mode0Events M rest else mode0Events M rest

/-- The pending candidate of a Mode-1 `pack` (R90); it lives inside one command (R21). -/
structure Candidate where
  /-- The payload as it would be emitted now. -/
  bytes : Bytes
  /-- Its accumulated size. -/
  psz   : Nat
  /-- It is in STAP-A form. -/
  agg   : Bool
deriving DecidableEq, Repr

/-- A NAL unit as a new candidate; psz counts the three bytes a STAP-A header would add (R96). -/
def newCandidate (n : Bytes) : Candidate := { bytes := n, psz := n.length + 3, agg := false }

/-- The lone NAL unit gets its STAP-A header and size prefix; psz already counted them (R93). -/
def toStapA (c : Candidate) : Candidate :=
  if c.agg then c
  else { c with bytes := hdr (nalNri (firstByte c.bytes)) 24 :: (be16 c.bytes.length ++ c.bytes), agg := true }

/-- MERGE(n): conversion, then the member with its size prefix (R93, R94). -/
def merge (c : Candidate) (n : Bytes) : Candidate :=
  let d := toStapA c
  { d with bytes := d.bytes ++ be16 n.length ++ n, psz := d.psz + n.length + 2 }

/-- The merge test psz + sz < M - 2, on integers (R92, R99). -/
def mergeTest (M : Nat) (c : Candidate) (n : Bytes) : Bool := decide (c.psz + n.length + 2 < M)

/-- ceil((S - 1) / (M - 2)) for S >= 1 and M >= 3 (R103). -/
def fragmentCount (M S : Nat) : Nat := (S - 1 + (M - 3)) / (M - 2)

/-- Fragment j of c (R102). -/
def fragmentAt (M : Nat) (ts : Timestamp) (n : Bytes) (last : Bool) (c j : Nat) : RtpRecord :=
  let P := M - 2
  let ind := hdr (nalNri (firstByte n)) 28
  let fuh := fuHdr (decide (j = 0)) (decide (j + 1 = c)) (nalType (firstByte n))
  { bytes := ind :: fuh :: slice n (1 + j * P) (min (1 + (j + 1) * P) n.length)
    ts := ts
    marker := decide (j + 1 = c) && last }

/-- FRAGMENT(n, last), reached only with M >= 3 (R102, R104). -/
def fragment (M : Nat) (ts : Timestamp) (n : Bytes) (last : Bool) : List RtpRecord :=
  let c := fragmentCount M n.length
  (List.range c).map (fragmentAt M ts n last c)

/-- EMIT_DIRECT(n, last) (R91, R97); none where it reaches FRAGMENT with M < 3 (R104). -/
def emitDirect (M : Nat) (ts : Timestamp) (n : Bytes) (last : Bool) : Option (List RtpRecord) :=
  if M < n.length then (if M < 3 then none else some (fragment M ts n last))
  else some [{ bytes := n, ts := ts, marker := last }]

/-- The candidate as a payload record (R95, R101). -/
def candidateRecord (ts : Timestamp) (marker : Bool) (c : Candidate) : RtpRecord :=
  { bytes := c.bytes, ts := ts, marker := marker }

/-- The loop of PACK_MODE1 with its final flush (R91, R95 to R101): the payloads emitted from here on, given the candidate held;
none where the fragmenter is reached with M < 3 (R104). -/
def mode1Loop (M : Nat) (allow : Bool) (ts : Timestamp) : Option Candidate → List Bytes → Option (List RtpRecord)
  | pend, [] => some ((pend.map (candidateRecord ts true)).toList)
  | pend, n :: rest =>
    if allow then
      if pend.any (fun c => mergeTest M c n) then
        mode1Loop M allow ts (pend.map (fun c => merge c n)) rest
      else
        let flushed := (pend.map (candidateRecord ts false)).toList
        if n.length < M / 2 then
          (mode1Loop M allow ts (some (newCandidate n)) rest).map (fun out => flushed ++ out)
        else
          (emitDirect M ts n (lastMarker rest)).bind fun direct =>
            (mode1Loop M allow ts none rest).map (fun out => flushed ++ direct ++ out)
    else
      (emitDirect M ts n (lastMarker rest)).bind fun direct =>
        (mode1Loop M allow ts pend rest).map (fun out => direct ++ out)

/-- All payloads of a Mode-1 `pack` (R91). -/
def mode1Records (M : Nat) (allow : Bool) (ts : Timestamp) (nalus : List Bytes) : Option (List RtpRecord) :=
  mode1Loop M allow ts none nalus

/-- The ports accept the NAL units consumed and the payloads produced (NAL_MAX_LEN, R44; log entry 7). -/
def packAdmits (caps : Capacities) (nalus : List Bytes) (rs : List RtpRecord) : Bool :=
  nalus.all (fun n => admitsLength caps n.length) && rs.all (fun r => admitsLength caps r.bytes.length)

/-- What both modes share once the payloads and events are known: the refusals of R87, R104 and R44, and otherwise NALU_IN
emptied and the payloads and events pushed. -/
def packCommit (out : Option (List RtpRecord)) (evs : List EventCode) (s : State) : Result :=
  if s.naluIn.any List.isEmpty then .refused .emptyNalUnit
  else
    match out with
    | none => .refused .cannotFragment
    | some rs =>
      if packAdmits s.caps s.naluIn rs then .next (pushEvents evs (emitRecords rs (drainNaluIn s)))
      else .refused .overCapacity

/-- PACK_MODE0(ts) (R83). -/
def runPackMode0 (ts : Timestamp) (s : State) : Result :=
  packCommit (some (mode0Records ts s.naluIn)) (mode0Events s.maxPayloadSize.toNat s.naluIn) s

/-- PACK_MODE1(ts) (R91). -/
def runPackMode1 (ts : Timestamp) (s : State) : Result :=
  packCommit (mode1Records s.maxPayloadSize.toNat s.stapAAllowed ts s.naluIn) [] s

/-- `pack` in a mode that is neither 0 nor 1: one EV_BAD_MODE, NALU_IN left as it is (R82, R152). -/
def runPackBadMode (s : State) : Result := .next (pushEvent codeBadMode s)

/-- `pack`: dispatch on CTX.mode (R81). -/
def execPack (ts : Timestamp) (s : State) : Result :=
  whileLive s
    (if s.mode = 0 then runPackMode0 ts s
     else if s.mode = 1 then runPackMode1 ts s
     else runPackBadMode s)

/-- `pack.mode0`: the branch of R81 that CTX.mode = 0 selects (R83; log entry 9). -/
def execPackMode0 (ts : Timestamp) (s : State) : Result :=
  whileLive s (if s.mode = 0 then runPackMode0 ts s else .refused .packRowNotSelected)

/-- `pack.mode1`: the branch of R81 that CTX.mode = 1 selects (R91; log entry 9). -/
def execPackMode1 (ts : Timestamp) (s : State) : Result :=
  whileLive s (if s.mode = 1 then runPackMode1 ts s else .refused .packRowNotSelected)

/-- `pack.bad_mode`: the branch of R81 that every other mode selects (R82; log entry 9). -/
def execPackBadMode (_ts : Timestamp) (s : State) : Result :=
  whileLive s (if s.mode = 0 ∨ s.mode = 1 then .refused .packRowNotSelected else runPackBadMode s)

end Sys2Proof.Machine
end

