-- ==== Sys2Proof/Machine/Unpack.lean ====
section
/-! DEFINITION. `unpack`, and the payload and FU-A rows it runs in its step 3 (42_unpack.md). -/

namespace Sys2Proof.Machine

/-- Step 1, the frame-boundary pre-check: flush and update are both under the two-part condition (R113). -/
def preCheck (ts : Timestamp) (s : State) : State :=
  if ts ≠ s.lastTimestamp ∧ s.reasm = none then setLastTimestamp ts (flush s) else s

/-- Step 4, the marker: no condition on CTX.reasm (R129). -/
def markerStep (marker : Bool) (ts : Timestamp) (s : State) : State :=
  if marker then setLastTimestamp ts (flush s) else s

/-- A payload that is no fragment ends a reassembly in progress: the partial unit is dropped and logged (R118, R128). -/
def dropReassembly (s : State) : State :=
  if s.reasm.isSome then pushEvent codeFuADiscontinued (setReasm none s) else s

/-- UNPACK_SINGLE(b) (R127). -/
def unpackSingle (b : Bytes) (s : State) : Result :=
  if admitsLength s.caps b.length && pendingAdmits s.caps s.pending [b] then
    .next (pushPending [b] (dropReassembly s))
  else .refused .overCapacity

/-- The walk of UNPACK_STAP_A over the bytes not yet read (R116, R117): the members split out, and whether it ended malformed.
Each member takes two bytes or more, so fuel equal to the number of bytes is never used up. -/
def stapWalk : Nat → Bytes → List Bytes × Bool
  | _, [] => ([], false)
  | _, [_] => ([], true)
  | 0, _ => ([], false)
  | fuel + 1, hi :: lo :: rest =>
    let sz := readBe16 hi lo
    if rest.length < sz then ([], true)
    else
      let more := stapWalk fuel (rest.drop sz)
      (rest.take sz :: more.1, more.2)

/-- UNPACK_STAP_A(b) (R116 to R119): the bytes after the header byte are walked. -/
def unpackStapA (b : Bytes) (s : State) : Result :=
  let walk := stapWalk b.length (b.drop 1)
  if admitsLength s.caps b.length && pendingAdmits s.caps s.pending walk.1 then
    let split := pushPending walk.1 (dropReassembly s)
    .next (if walk.2 then pushEvent codeStapAMalformed split else split)
  else .refused .overCapacity

/-- The Start part: a new reassembly, an earlier one dropped and logged (R121, R122). -/
def fuAStartPart (header : Byte) (data : Bytes) (s : State) : State :=
  setReasm (some (header :: data)) (if s.reasm.isSome then pushEvent codeFuANestedStart s else s)

/-- The continuation part: the data is appended, or the fragment dropped and logged (R123, R124). -/
def fuAContinuePart (data : Bytes) (s : State) : State :=
  match s.reasm with
  | none => pushEvent codeFuANoStart s
  | some r => setReasm (some (r ++ data)) s

/-- The End part: a reassembly in progress is complete (R125). -/
def fuAEndPart (s : State) : State :=
  match s.reasm with
  | none => s
  | some r => setReasm none (pushPending [r] s)

/-- UNPACK_FU_A with its bits read: the Start or the continuation part, then the End part (R120). `header` is the NAL header
byte that a Start fragment rebuilds (R64). -/
def runFuA (start stop : Bool) (header : Byte) (data : Bytes) (s : State) : Result :=
  let first := if start then fuAStartPart header data s else fuAContinuePart data s
  if admitsLength s.caps (data.length + 2) && reasmAdmits s.caps first.reasm then
    if stop then
      if pendingAdmits s.caps first.pending first.reasm.toList then .next (fuAEndPart first)
      else .refused .overCapacity
    else .next first
  else .refused .overCapacity

/-- UNPACK_FU_A(b) (R120); without an FU header it has no behaviour (R132). -/
def unpackFuA (b : Bytes) (s : State) : Result :=
  match b with
  | ind :: fh :: data => runFuA (fuStart fh) (fuEnd fh) (hdr (nalNri ind) (fuType fh)) data s
  | _ => .refused .fuAWithoutHeader

/-- Step 3: exactly one of the three paths, by CLASS(b) (R115); an empty payload has no class (R132). -/
def unpackPayload (b : Bytes) (s : State) : Result :=
  match b with
  | [] => .refused .emptyPayload
  | h :: _ =>
    match classOf h with
    | .stapA => unpackStapA b s
    | .fuA => unpackFuA b s
    | .single => unpackSingle b s

/-- `unpack` (R111). A refusal has no successor, so it makes no difference that the checks of R132 and R44 stand in step 3. -/
def execUnpack (_arg : BitVec 32) (s : State) : Result :=
  whileLive s
    (match s.rtpIn with
     | [] => .refused .noPayload
     | r :: rest =>
       thenNext (unpackPayload r.bytes (preCheck r.ts { s with rtpIn := rest })) (markerStep r.marker r.ts))

/-- A single-NAL row: UNPACK_SINGLE on the payload it stands for (R127; log entry 9). -/
def runSingleRow (ty : BitVec 5) (f : BitVec 1) (nri : BitVec 2) (rest : Bytes) (s : State) : Result :=
  whileLive s (unpackSingle (payloadBytes ty f nri rest) s)

/-- `PAYLOAD.SINGLE_NAL.T0` (R127). -/
def execPayloadSingleNalT0 (f : BitVec 1) (nri : BitVec 2) (rest : Bytes) (s : State) : Result :=
  runSingleRow 0 f nri rest s

/-- `PAYLOAD.SINGLE_NAL.T1` (R127). -/
def execPayloadSingleNalT1 (f : BitVec 1) (nri : BitVec 2) (rest : Bytes) (s : State) : Result :=
  runSingleRow 1 f nri rest s

/-- `PAYLOAD.SINGLE_NAL.T2` (R127). -/
def execPayloadSingleNalT2 (f : BitVec 1) (nri : BitVec 2) (rest : Bytes) (s : State) : Result :=
  runSingleRow 2 f nri rest s

/-- `PAYLOAD.SINGLE_NAL.T3` (R127). -/
def execPayloadSingleNalT3 (f : BitVec 1) (nri : BitVec 2) (rest : Bytes) (s : State) : Result :=
  runSingleRow 3 f nri rest s

/-- `PAYLOAD.SINGLE_NAL.T4` (R127). -/
def execPayloadSingleNalT4 (f : BitVec 1) (nri : BitVec 2) (rest : Bytes) (s : State) : Result :=
  runSingleRow 4 f nri rest s

/-- `PAYLOAD.SINGLE_NAL.T5` (R127). -/
def execPayloadSingleNalT5 (f : BitVec 1) (nri : BitVec 2) (rest : Bytes) (s : State) : Result :=
  runSingleRow 5 f nri rest s

/-- `PAYLOAD.SINGLE_NAL.T6` (R127). -/
def execPayloadSingleNalT6 (f : BitVec 1) (nri : BitVec 2) (rest : Bytes) (s : State) : Result :=
  runSingleRow 6 f nri rest s

/-- `PAYLOAD.SINGLE_NAL.T7` (R127). -/
def execPayloadSingleNalT7 (f : BitVec 1) (nri : BitVec 2) (rest : Bytes) (s : State) : Result :=
  runSingleRow 7 f nri rest s

/-- `PAYLOAD.SINGLE_NAL.T8` (R127). -/
def execPayloadSingleNalT8 (f : BitVec 1) (nri : BitVec 2) (rest : Bytes) (s : State) : Result :=
  runSingleRow 8 f nri rest s

/-- `PAYLOAD.SINGLE_NAL.T9` (R127). -/
def execPayloadSingleNalT9 (f : BitVec 1) (nri : BitVec 2) (rest : Bytes) (s : State) : Result :=
  runSingleRow 9 f nri rest s

/-- `PAYLOAD.SINGLE_NAL.T10` (R127). -/
def execPayloadSingleNalT10 (f : BitVec 1) (nri : BitVec 2) (rest : Bytes) (s : State) : Result :=
  runSingleRow 10 f nri rest s

/-- `PAYLOAD.SINGLE_NAL.T11` (R127). -/
def execPayloadSingleNalT11 (f : BitVec 1) (nri : BitVec 2) (rest : Bytes) (s : State) : Result :=
  runSingleRow 11 f nri rest s

/-- `PAYLOAD.SINGLE_NAL.T12` (R127). -/
def execPayloadSingleNalT12 (f : BitVec 1) (nri : BitVec 2) (rest : Bytes) (s : State) : Result :=
  runSingleRow 12 f nri rest s

/-- `PAYLOAD.SINGLE_NAL.T13` (R127). -/
def execPayloadSingleNalT13 (f : BitVec 1) (nri : BitVec 2) (rest : Bytes) (s : State) : Result :=
  runSingleRow 13 f nri rest s

/-- `PAYLOAD.SINGLE_NAL.T14` (R127). -/
def execPayloadSingleNalT14 (f : BitVec 1) (nri : BitVec 2) (rest : Bytes) (s : State) : Result :=
  runSingleRow 14 f nri rest s

/-- `PAYLOAD.SINGLE_NAL.T15` (R127). -/
def execPayloadSingleNalT15 (f : BitVec 1) (nri : BitVec 2) (rest : Bytes) (s : State) : Result :=
  runSingleRow 15 f nri rest s

/-- `PAYLOAD.SINGLE_NAL.T16` (R127). -/
def execPayloadSingleNalT16 (f : BitVec 1) (nri : BitVec 2) (rest : Bytes) (s : State) : Result :=
  runSingleRow 16 f nri rest s

/-- `PAYLOAD.SINGLE_NAL.T17` (R127). -/
def execPayloadSingleNalT17 (f : BitVec 1) (nri : BitVec 2) (rest : Bytes) (s : State) : Result :=
  runSingleRow 17 f nri rest s

/-- `PAYLOAD.SINGLE_NAL.T18` (R127). -/
def execPayloadSingleNalT18 (f : BitVec 1) (nri : BitVec 2) (rest : Bytes) (s : State) : Result :=
  runSingleRow 18 f nri rest s

/-- `PAYLOAD.SINGLE_NAL.T19` (R127). -/
def execPayloadSingleNalT19 (f : BitVec 1) (nri : BitVec 2) (rest : Bytes) (s : State) : Result :=
  runSingleRow 19 f nri rest s

/-- `PAYLOAD.SINGLE_NAL.T20` (R127). -/
def execPayloadSingleNalT20 (f : BitVec 1) (nri : BitVec 2) (rest : Bytes) (s : State) : Result :=
  runSingleRow 20 f nri rest s

/-- `PAYLOAD.SINGLE_NAL.T21` (R127). -/
def execPayloadSingleNalT21 (f : BitVec 1) (nri : BitVec 2) (rest : Bytes) (s : State) : Result :=
  runSingleRow 21 f nri rest s

/-- `PAYLOAD.SINGLE_NAL.T22` (R127). -/
def execPayloadSingleNalT22 (f : BitVec 1) (nri : BitVec 2) (rest : Bytes) (s : State) : Result :=
  runSingleRow 22 f nri rest s

/-- `PAYLOAD.SINGLE_NAL.T23` (R127). -/
def execPayloadSingleNalT23 (f : BitVec 1) (nri : BitVec 2) (rest : Bytes) (s : State) : Result :=
  runSingleRow 23 f nri rest s

/-- `PAYLOAD.SINGLE_NAL.T25` (R127). -/
def execPayloadSingleNalT25 (f : BitVec 1) (nri : BitVec 2) (rest : Bytes) (s : State) : Result :=
  runSingleRow 25 f nri rest s

/-- `PAYLOAD.SINGLE_NAL.T26` (R127). -/
def execPayloadSingleNalT26 (f : BitVec 1) (nri : BitVec 2) (rest : Bytes) (s : State) : Result :=
  runSingleRow 26 f nri rest s

/-- `PAYLOAD.SINGLE_NAL.T27` (R127). -/
def execPayloadSingleNalT27 (f : BitVec 1) (nri : BitVec 2) (rest : Bytes) (s : State) : Result :=
  runSingleRow 27 f nri rest s

/-- `PAYLOAD.SINGLE_NAL.T29` (R127). -/
def execPayloadSingleNalT29 (f : BitVec 1) (nri : BitVec 2) (rest : Bytes) (s : State) : Result :=
  runSingleRow 29 f nri rest s

/-- `PAYLOAD.SINGLE_NAL.T30` (R127). -/
def execPayloadSingleNalT30 (f : BitVec 1) (nri : BitVec 2) (rest : Bytes) (s : State) : Result :=
  runSingleRow 30 f nri rest s

/-- `PAYLOAD.SINGLE_NAL.T31` (R127). -/
def execPayloadSingleNalT31 (f : BitVec 1) (nri : BitVec 2) (rest : Bytes) (s : State) : Result :=
  runSingleRow 31 f nri rest s

/-- `PAYLOAD.STAP_A` (R116): F and NRI of the header are not read. -/
def execPayloadStapA (f : BitVec 1) (nri : BitVec 2) (rest : Bytes) (s : State) : Result :=
  whileLive s (unpackStapA (payloadBytes 24 f nri rest) s)

/-- `PAYLOAD.FU_A` (R120): the second byte says which fragment it is. -/
def execPayloadFuA (f : BitVec 1) (nri : BitVec 2) (rest : Bytes) (s : State) : Result :=
  whileLive s (unpackFuA (payloadBytes 28 f nri rest) s)

/-- `FU_A.START` (R121, R122): the NAL header is rebuilt from NRI and FTYPE; F and bit 5 are ignored. -/
def execFuAStart (_f : BitVec 1) (nri : BitVec 2) (_r : BitVec 1) (ftype : BitVec 5) (data : Bytes) (s : State) : Result :=
  whileLive s (runFuA true false (hdr nri ftype) data s)

/-- `FU_A.MIDDLE` (R123, R124): NRI and FTYPE are ignored. -/
def execFuAMiddle (_f : BitVec 1) (nri : BitVec 2) (_r : BitVec 1) (ftype : BitVec 5) (data : Bytes) (s : State) : Result :=
  whileLive s (runFuA false false (hdr nri ftype) data s)

/-- `FU_A.END` (R125, R124): NRI and FTYPE are ignored. -/
def execFuAEnd (_f : BitVec 1) (nri : BitVec 2) (_r : BitVec 1) (ftype : BitVec 5) (data : Bytes) (s : State) : Result :=
  whileLive s (runFuA false true (hdr nri ftype) data s)

/-- `FU_A.START_END` (R126): a whole NAL unit in one fragment. -/
def execFuAStartEnd (_f : BitVec 1) (nri : BitVec 2) (_r : BitVec 1) (ftype : BitVec 5) (data : Bytes) (s : State) : Result :=
  whileLive s (runFuA true true (hdr nri ftype) data s)

end Sys2Proof.Machine
end

