-- ==== Sys2Proof/Machine/Dispatch.lean ====
section
/-! DEFINITION. One arm per row of spec/opcode_table.json: the instruction's meaning. -/

namespace Sys2Proof.Machine

def exec (i : Instr) (s : State) : Host.Outcome State Fault Refusal :=
  match i with
  | .init arg => Sys2Proof.Machine.execInit arg s
  | .setMode arg => Sys2Proof.Machine.execSetMode arg s
  | .enableStapA arg => Sys2Proof.Machine.execEnableStapA arg s
  | .setMaxPayloadSize arg => Sys2Proof.Machine.execSetMaxPayloadSize arg s
  | .pack ts => Sys2Proof.Machine.execPack ts s
  | .unpack arg => Sys2Proof.Machine.execUnpack arg s
  | .uninit arg => Sys2Proof.Machine.execUninit arg s
  | .reservedOp7 arg => Sys2Proof.Machine.execReservedOp7 arg s
  | .packMode0 ts => Sys2Proof.Machine.execPackMode0 ts s
  | .packMode1 ts => Sys2Proof.Machine.execPackMode1 ts s
  | .packBadMode ts => Sys2Proof.Machine.execPackBadMode ts s
  | .payloadSingleNalT0 f nri rest => Sys2Proof.Machine.execPayloadSingleNalT0 f nri rest s
  | .payloadSingleNalT1 f nri rest => Sys2Proof.Machine.execPayloadSingleNalT1 f nri rest s
  | .payloadSingleNalT2 f nri rest => Sys2Proof.Machine.execPayloadSingleNalT2 f nri rest s
  | .payloadSingleNalT3 f nri rest => Sys2Proof.Machine.execPayloadSingleNalT3 f nri rest s
  | .payloadSingleNalT4 f nri rest => Sys2Proof.Machine.execPayloadSingleNalT4 f nri rest s
  | .payloadSingleNalT5 f nri rest => Sys2Proof.Machine.execPayloadSingleNalT5 f nri rest s
  | .payloadSingleNalT6 f nri rest => Sys2Proof.Machine.execPayloadSingleNalT6 f nri rest s
  | .payloadSingleNalT7 f nri rest => Sys2Proof.Machine.execPayloadSingleNalT7 f nri rest s
  | .payloadSingleNalT8 f nri rest => Sys2Proof.Machine.execPayloadSingleNalT8 f nri rest s
  | .payloadSingleNalT9 f nri rest => Sys2Proof.Machine.execPayloadSingleNalT9 f nri rest s
  | .payloadSingleNalT10 f nri rest => Sys2Proof.Machine.execPayloadSingleNalT10 f nri rest s
  | .payloadSingleNalT11 f nri rest => Sys2Proof.Machine.execPayloadSingleNalT11 f nri rest s
  | .payloadSingleNalT12 f nri rest => Sys2Proof.Machine.execPayloadSingleNalT12 f nri rest s
  | .payloadSingleNalT13 f nri rest => Sys2Proof.Machine.execPayloadSingleNalT13 f nri rest s
  | .payloadSingleNalT14 f nri rest => Sys2Proof.Machine.execPayloadSingleNalT14 f nri rest s
  | .payloadSingleNalT15 f nri rest => Sys2Proof.Machine.execPayloadSingleNalT15 f nri rest s
  | .payloadSingleNalT16 f nri rest => Sys2Proof.Machine.execPayloadSingleNalT16 f nri rest s
  | .payloadSingleNalT17 f nri rest => Sys2Proof.Machine.execPayloadSingleNalT17 f nri rest s
  | .payloadSingleNalT18 f nri rest => Sys2Proof.Machine.execPayloadSingleNalT18 f nri rest s
  | .payloadSingleNalT19 f nri rest => Sys2Proof.Machine.execPayloadSingleNalT19 f nri rest s
  | .payloadSingleNalT20 f nri rest => Sys2Proof.Machine.execPayloadSingleNalT20 f nri rest s
  | .payloadSingleNalT21 f nri rest => Sys2Proof.Machine.execPayloadSingleNalT21 f nri rest s
  | .payloadSingleNalT22 f nri rest => Sys2Proof.Machine.execPayloadSingleNalT22 f nri rest s
  | .payloadSingleNalT23 f nri rest => Sys2Proof.Machine.execPayloadSingleNalT23 f nri rest s
  | .payloadStapA f nri rest => Sys2Proof.Machine.execPayloadStapA f nri rest s
  | .payloadSingleNalT25 f nri rest => Sys2Proof.Machine.execPayloadSingleNalT25 f nri rest s
  | .payloadSingleNalT26 f nri rest => Sys2Proof.Machine.execPayloadSingleNalT26 f nri rest s
  | .payloadSingleNalT27 f nri rest => Sys2Proof.Machine.execPayloadSingleNalT27 f nri rest s
  | .payloadFuA f nri rest => Sys2Proof.Machine.execPayloadFuA f nri rest s
  | .payloadSingleNalT29 f nri rest => Sys2Proof.Machine.execPayloadSingleNalT29 f nri rest s
  | .payloadSingleNalT30 f nri rest => Sys2Proof.Machine.execPayloadSingleNalT30 f nri rest s
  | .payloadSingleNalT31 f nri rest => Sys2Proof.Machine.execPayloadSingleNalT31 f nri rest s
  | .fuAStart f nri r ftype data => Sys2Proof.Machine.execFuAStart f nri r ftype data s
  | .fuAMiddle f nri r ftype data => Sys2Proof.Machine.execFuAMiddle f nri r ftype data s
  | .fuAEnd f nri r ftype data => Sys2Proof.Machine.execFuAEnd f nri r ftype data s
  | .fuAStartEnd f nri r ftype data => Sys2Proof.Machine.execFuAStartEnd f nri r ftype data s
  | .formatNalHeader f nri ty => Sys2Proof.Machine.execFormatNalHeader f nri ty s
  | .formatStapAHeader f nri => Sys2Proof.Machine.execFormatStapAHeader f nri s
  | .formatStapASize size => Sys2Proof.Machine.execFormatStapASize size s
  | .formatFuIndicator f nri => Sys2Proof.Machine.execFormatFuIndicator f nri s
  | .formatFuHeader b7 b6 b5 ftype => Sys2Proof.Machine.execFormatFuHeader b7 b6 b5 ftype s
  | .evBadMode => Sys2Proof.Machine.execEvBadMode s
  | .evOversize => Sys2Proof.Machine.execEvOversize s
  | .evStapAMalformed => Sys2Proof.Machine.execEvStapAMalformed s
  | .evFuANestedStart => Sys2Proof.Machine.execEvFuANestedStart s
  | .evFuANoStart => Sys2Proof.Machine.execEvFuANoStart s
  | .evFuADiscontinued => Sys2Proof.Machine.execEvFuADiscontinued s

end Sys2Proof.Machine
end

