-- ==== Sys2Proof/Machine/Step.lean ====
section
/-! DEFINITION. One step of the machine: the oldest command word of the port is decoded and executed (10_state.md R19; 20_memory.md
R40); with no command waiting the block idles (60_exceptions.md R165). -/

namespace Sys2Proof.Machine

/-- One step (log entries 1, 2). -/
def step (s : State) : Host.Outcome State Fault Refusal :=
  match fetchCommand s with
  | none => .next s
  | some (w, s') => exec (decodeCommand w) s'

/-- `s` with a table word where the machine reads it next (log entry 15). A command word goes to the front of the command port.
The bytes of a payload or FU-A row are read by `unpack` from RTP_IN while there is a Context: the payload goes to the front of
RTP_IN, an `unpack` word to the front of the command port, and the Context is made live. -/
def State.withFetchWord (s : State) (nbits w : Nat) : State :=
  if 16 < nbits then { s with cmdIn := BitVec.ofNat 35 w :: s.cmdIn }
  else
    { s with
      live := true
      cmdIn := commandWord 5 0 :: s.cmdIn
      rtpIn := { bytes := tablePayload nbits w, ts := 0, marker := false } :: s.rtpIn }

end Sys2Proof.Machine
end

