-- ==== Sys2Proof/Safety.lean ====
section
/-! DEFINITION. The terms in which claims speak of a sound state and of a command that fits the instance's storage
(10_state.md R24; 20_memory.md R44). -/

namespace Sys2Proof.Machine

/-- A port accepts a NAL unit or payload of `n` bytes (NAL_MAX_LEN, R44). -/
abbrev Capacities.PortAccepts (c : Capacities) (n : Nat) : Prop := ∀ m ∈ c.nalMaxLen, n ≤ m

/-- CTX.pending may hold `q` (PENDING_CAP in entries and in bytes, R44). -/
abbrev Capacities.PendingHolds (c : Capacities) (q : List Bytes) : Prop :=
  (∀ m ∈ c.pendingEntries, q.length ≤ m) ∧ (∀ m ∈ c.pendingBytes, (q.map List.length).sum ≤ m)

/-- CTX.reasm may hold `n` bytes (REASM_CAP, R44). -/
abbrev Capacities.ReasmHolds (c : Capacities) (n : Nat) : Prop := ∀ m ∈ c.reasmBytes, n ≤ m

/-- What holds of every state between commands: max_payload_size is never 0 while there is a Context (R24 a, R13); a reassembly in
progress has at least one byte (R24 b, R16); without a Context nothing is held (R25, R146); and the storage is within its
capacities (R44). -/
abbrev State.ContextInv (s : State) : Prop :=
  (s.live = true → s.maxPayloadSize ≠ 0)
  ∧ s.reasm ≠ some []
  ∧ (s.live = false → s.reasm = none ∧ s.pending = [])
  ∧ s.caps.PendingHolds s.pending
  ∧ (∀ u ∈ s.pending, s.caps.PortAccepts u.length)
  ∧ (∀ r ∈ s.reasm, s.caps.ReasmHolds r.length)

end Sys2Proof.Machine
end

