-- ==== Sys2Proof/Certificates/Slice0/Obligations.lean ====
section
/-! DEFINITION. The statements for the provers. Each docstring names the rules of spec/ it formalises. Where an instruction's result
is given, the statement is an equation between whole states, so it is the instruction's frame as well: every field not named is
unchanged. H264RTP has no addressed memory; its buffers stand in the queues, which are fields of the state. -/

open Sys2Proof Sys2Proof.Machine

/-! ### Lifecycle and configuration (43_lifecycle.md) -/

/-- R140, R147: in every state `init` completes and writes exactly the seven Context fields; the size it writes is one of 3..65535
and otherwise unknown, the timestamp unknown. -/
def Obligations.InitCreatesTheContext : Prop :=
  (∀ (arg : BitVec 32) (s : State),
    exec (.init arg) s = .next { s with
      live := true, mode := 0, stapAAllowed := true, maxPayloadSize := Config.defaultMaxPayloadSize,
      lastTimestamp := Config.tsSentinel, pending := [], reasm := none })
  ∧ 3 ≤ Config.defaultMaxPayloadSize.toNat

/-- R141: with a Context, `set_mode` stores any 32-bit value and does nothing else; without one it is refused. -/
def Obligations.SetModeStoresAnyValue : Prop :=
  ∀ (arg : BitVec 32) (s : State),
    (s.live = true → exec (.setMode arg) s = .next { s with mode := arg })
    ∧ (s.live = false → exec (.setMode arg) s = .refused .noContext)

/-- R142: with a Context, `enable_stap_a` stores false for 0 and true for every other value; without one it is refused. -/
def Obligations.EnableStapAReadsABoolean : Prop :=
  ∀ (arg : BitVec 32) (s : State),
    (s.live = true → arg = 0 → exec (.enableStapA arg) s = .next { s with stapAAllowed := false })
    ∧ (s.live = true → arg ≠ 0 → exec (.enableStapA arg) s = .next { s with stapAAllowed := true })
    ∧ (s.live = false → exec (.enableStapA arg) s = .refused .noContext)

/-- R143: `set_max_payload_size` stores its argument exactly when it is in 1..65535, and is refused for every other value. -/
def Obligations.SetMaxPayloadSizeAcceptsExactlyItsRange : Prop :=
  ∀ (arg : BitVec 32) (s : State),
    (s.live = true → 1 ≤ arg.toNat → arg.toNat ≤ 65535 →
      ∃ m : BitVec 16, m.toNat = arg.toNat ∧ exec (.setMaxPayloadSize arg) s = .next { s with maxPayloadSize := m })
    ∧ (s.live = true → (arg.toNat = 0 ∨ 65535 < arg.toNat) →
      exec (.setMaxPayloadSize arg) s = .refused .sizeOutOfRange)
    ∧ (s.live = false → exec (.setMaxPayloadSize arg) s = .refused .noContext)

/-- R146: `uninit` discards CTX.pending and CTX.reasm, ends the Context, and delivers and logs nothing. -/
def Obligations.UninitDiscardsAndEndsTheContext : Prop :=
  ∀ (arg : BitVec 32) (s : State),
    (s.live = true → exec (.uninit arg) s = .next { s with pending := [], reasm := none, live := false })
    ∧ (s.live = false → exec (.uninit arg) s = .refused .noContext)

/-- R145: without a Context the six commands other than `init` are refused, whatever the queues hold. -/
def Obligations.NoContextRefusesSixCommands : Prop :=
  ∀ (a : BitVec 32) (s : State), s.live = false →
    exec (.setMode a) s = .refused .noContext
    ∧ exec (.enableStapA a) s = .refused .noContext
    ∧ exec (.setMaxPayloadSize a) s = .refused .noContext
    ∧ exec (.pack a) s = .refused .noContext
    ∧ exec (.unpack a) s = .refused .noContext
    ∧ exec (.uninit a) s = .refused .noContext

/-- R148: op = 7 is refused in every state. -/
def Obligations.ReservedOpcodeIsRefused : Prop :=
  ∀ (arg : BitVec 32) (s : State), exec (.reservedOp7 arg) s = .refused .reservedOpcode

/-- R25 for a running instance, whatever the four unspecified fields become: the Context is gone, the depacketizer is Idle, and (R170)
the host's queues are untouched. The state after power-on has no Context either. -/
def Obligations.HardwareResetLeavesNoContext : Prop :=
  (∀ (mode : BitVec 32) (size : BitVec 16) (stapA : Bool) (ts : Timestamp) (s : State),
    let t := hardwareReset mode size stapA ts s
    t.live = false ∧ t.reasm = none ∧ t.pending = [] ∧ depacketizer t = .idle
    ∧ t.naluIn = s.naluIn ∧ t.rtpOut = s.rtpOut ∧ t.rtpIn = s.rtpIn ∧ t.naluOut = s.naluOut ∧ t.evtOut = s.evtOut)
  ∧ State.reset.live = false ∧ State.reset.reasm = none ∧ State.reset.pending = []

/-! ### The command port and the encodings (30_encoding.md) -/

/-- R40, R66: a step executes the oldest command word of the port, decoded, in the state without that word. (The port's queue is the
model's own field, log entry 1.) -/
def Obligations.StepRunsTheOldestCommand : Prop :=
  ∀ (s : State) (w : CommandWord) (ws : List CommandWord), s.cmdIn = w :: ws →
    step s = exec (decodeCommand w) { s with cmdIn := ws }

/-- R19, R165: with no command waiting the block keeps all its state. (That an idle step answers next is the model's choice, log
entry 2.) -/
def Obligations.IdleBlockKeepsItsState : Prop :=
  ∀ s : State, s.cmdIn = [] → step s = .next s

/-- Sanity: a few words written out from R67, R53, R59 and R151 decode to the rows they stand for. -/
def Obligations.WordsOfTheTablesDecode : Prop :=
  decodeCommand 0x0DEADBEEF = .init 0xDEADBEEF
  ∧ decodeCommand 0x3000004B0 = .setMaxPayloadSize 1200
  ∧ decodeCommand 0x400015F90 = .pack 90000
  ∧ decodeCommand 0x700000000 = .reservedOp7 0
  ∧ decodePayload [0xE5, 0x33] = .ok (.payloadSingleNalT5 1 3 [0x33])
  ∧ decodePayload [0x78, 0x00, 0x01, 0x09] = .ok (.payloadStapA 0 3 [0x00, 0x01, 0x09])
  ∧ decodeFuA [0xFC, 0xA5, 0xAA] = .ok (.fuAStart 1 3 1 5 [0xAA])
  ∧ decodeEvent 6 = .ok .evFuADiscontinued

/-- Every well-formed row is read back from its own words, with every operand: commands and the mode that selects a `pack` row
(R66, R67, R81), payloads and fragments (R50, R53, R59, R61), layouts (R56, R57, R60, R62), events (R151). -/
def Obligations.DecodeInvertsEncode : Prop :=
  ∀ i : Instr, i.WellFormed = true → decode (encode i) = .ok i

/-- The other direction where a word has one meaning: no bit of a command word or of a payload is dropped. -/
def Obligations.EncodeInvertsDecode : Prop :=
  (∀ w : CommandWord, encode (decodeCommand w) = .command w)
  ∧ (∀ (b : Bytes) (i : Instr), decodePayload b = .ok i → encode i = .payload b)
  ∧ (∀ (b : Bytes) (i : Instr), decodeFuA b = .ok i → encode i = .fuA b)

/-! ### `pack` (40_pack_dispatch_mode0.md, 41_pack_mode1.md) -/

/-- R81: `pack` is the row that CTX.mode selects. -/
def Obligations.PackDispatchesOnTheMode : Prop :=
  ∀ (ts : Timestamp) (s : State),
    exec (.pack ts) s =
      if s.mode = 0 then exec (.packMode0 ts) s
      else if s.mode = 1 then exec (.packMode1 ts) s
      else exec (.packBadMode ts) s

/-- R81 and the table's CMD35+CTX.mode rows: a `pack` row runs only in its mode. (That it stops by name in another mode is the
model's choice, log entry 9.) -/
def Obligations.PackRowsStopOutsideTheirMode : Prop :=
  ∀ (ts : Timestamp) (s : State), s.live = true →
    (s.mode ≠ 0 → exec (.packMode0 ts) s = .refused .packRowNotSelected)
    ∧ (s.mode ≠ 1 → exec (.packMode1 ts) s = .refused .packRowNotSelected)
    ∧ (s.mode = 0 ∨ s.mode = 1 → exec (.packBadMode ts) s = .refused .packRowNotSelected)

/-- R82, R152: in a bad mode `pack` pushes one EV_BAD_MODE (code 1) and changes nothing else, NALU_IN included, empty or not. -/
def Obligations.BadModeLogsAndKeepsItsInput : Prop :=
  ∀ (ts : Timestamp) (s : State), s.live = true → s.mode ≠ 0 → s.mode ≠ 1 →
    exec (.pack ts) s = .next { s with evtOut := s.evtOut ++ [1] }
    ∧ exec (.packBadMode ts) s = .next { s with evtOut := s.evtOut ++ [1] }

/-- R83, R84, R85, R153: in mode 0 each NAL unit becomes one payload, unchanged, the marker on the last only, and each unit longer
than M pushes one EV_OVERSIZE (code 2). -/
def Obligations.Mode0SendsEveryUnitUnchanged : Prop :=
  ∀ (ts : Timestamp) (s : State), s.live = true → s.mode = 0 →
    (∀ n ∈ s.naluIn, n ≠ [] ∧ s.caps.PortAccepts n.length) →
    let t : State := { s with
      naluIn := []
      rtpOut := s.rtpOut ++ s.naluIn.mapIdx (fun i n => ⟨n, ts, decide (i + 1 = s.naluIn.length)⟩)
      evtOut := s.evtOut ++ (s.naluIn.filter (fun n => decide (s.maxPayloadSize.toNat < n.length))).map (fun _ => 2) }
    exec (.pack ts) s = .next t ∧ exec (.packMode0 ts) s = .next t

/-- R86: with NALU_IN empty, `pack` in mode 0 or 1 changes nothing; in any other mode EV_BAD_MODE is pushed all the same. -/
def Obligations.EmptyPackEmitsNothing : Prop :=
  ∀ (ts : Timestamp) (s : State), s.live = true → s.naluIn = [] →
    (s.mode = 0 ∨ s.mode = 1 → exec (.pack ts) s = .next s)
    ∧ (s.mode ≠ 0 → s.mode ≠ 1 → exec (.pack ts) s = .next { s with evtOut := s.evtOut ++ [1] })

/-- R87: one empty NAL unit anywhere in NALU_IN refuses the whole `pack`, in mode 0 and in mode 1. -/
def Obligations.EmptyNalUnitRefusesThePack : Prop :=
  ∀ (ts : Timestamp) (s : State), s.live = true → s.mode = 0 ∨ s.mode = 1 → [] ∈ s.naluIn →
    exec (.pack ts) s = .refused .emptyNalUnit

/-- R91, R88: a Mode-1 `pack` of non-empty units completes when no unit must be fragmented with M < 3: NALU_IN is emptied, payloads
all stamped with ts are pushed, no event, and nothing else changes. -/
def Obligations.Mode1PackCompletes : Prop :=
  ∀ (ts : Timestamp) (s : State), s.live = true → s.mode = 1 →
    (∀ n ∈ s.naluIn, n ≠ [] ∧ s.caps.PortAccepts n.length ∧ (3 ≤ s.maxPayloadSize.toNat ∨ n.length ≤ s.maxPayloadSize.toNat)) →
    s.caps.PortAccepts s.maxPayloadSize.toNat →
    ∃ recs : List RtpRecord, (∀ r ∈ recs, r.ts = ts ∧ r.bytes ≠ [])
      ∧ exec (.pack ts) s = .next { s with naluIn := [], rtpOut := s.rtpOut ++ recs }
      ∧ exec (.packMode1 ts) s = .next { s with naluIn := [], rtpOut := s.rtpOut ++ recs }

/-- R105: in mode 1 no payload is longer than M; where no input unit is of type 24, so that a payload of type 24 is one the block
aggregated, a STAP-A payload is at most M - 1 bytes. -/
def Obligations.Mode1PayloadsFitTheBudget : Prop :=
  ∀ (ts : Timestamp) (s t : State), s.mode = 1 → exec (.pack ts) s = .next t →
    ∃ recs : List RtpRecord, t.rtpOut = s.rtpOut ++ recs
      ∧ (∀ r ∈ recs, r.bytes.length ≤ s.maxPayloadSize.toNat)
      ∧ ((∀ n ∈ s.naluIn, nalType (firstByte n) ≠ 24) →
          ∀ r ∈ recs, nalType (firstByte r.bytes) = 24 → r.bytes.length + 1 ≤ s.maxPayloadSize.toNat)

/-- R106: a `pack` in mode 0 or 1 with at least one NAL unit pushes exactly one marked record, the last; with none it pushes none. -/
def Obligations.ExactlyTheLastPayloadIsMarked : Prop :=
  ∀ (ts : Timestamp) (s t : State), s.mode = 0 ∨ s.mode = 1 → exec (.pack ts) s = .next t →
    (s.naluIn ≠ [] → ∃ (recs : List RtpRecord) (r : RtpRecord),
      t.rtpOut = s.rtpOut ++ recs ++ [r] ∧ r.marker = true ∧ ∀ x ∈ recs, x.marker = false)
    ∧ (s.naluIn = [] → t.rtpOut = s.rtpOut)

/-- R55, R92, R93, R94, R101, R109: two or more units whose aggregate is shorter than M, the first below M div 2, leave as one marked
STAP-A payload: header with the first unit's NRI, then every unit behind its big-endian size. -/
def Obligations.FrameThatFitsIsOneStapA : Prop :=
  ∀ (ts : Timestamp) (s : State) (p q : Bytes) (rest : List Bytes),
    s.live = true → s.mode = 1 → s.stapAAllowed = true → s.naluIn = p :: q :: rest → (∀ n ∈ s.naluIn, n ≠ []) →
    p.length < s.maxPayloadSize.toNat / 2 →
    1 + (s.naluIn.map (fun n => 2 + n.length)).sum < s.maxPayloadSize.toNat →
    s.caps.PortAccepts s.maxPayloadSize.toNat →
    exec (.pack ts) s = .next { s with
      naluIn := []
      rtpOut := s.rtpOut ++ [⟨hdr (nalNri (firstByte p)) 24 :: s.naluIn.flatMap (fun n =>
        BitVec.ofNat 8 (n.length / 256) :: BitVec.ofNat 8 (n.length % 256) :: n), ts, true⟩] }

/-- R92, R93, R94, R95, R96: in a frame of any length, a run p :: qs that the strict merge test lets grow (p below M div 2) and a unit
n behind it that fails the test: the run leaves first, unmarked, p alone as it is or the whole run as one STAP-A payload, and the rest
of the frame, n first, leaves as a frame of its own would. With FrameThatFitsIsOneStapA, LoneUnitIsASingleNalPayload,
LongUnitIsFragmented and DirectUnitLeavesBeforeTheRestOfItsFrame this gives the payloads of every frame sent with aggregation. -/
def Obligations.UnitThatDoesNotMergeFlushesTheCandidate : Prop :=
  ∀ (ts : Timestamp) (s : State) (p : Bytes) (qs : List Bytes) (n : Bytes) (rest : List Bytes),
    s.live = true → s.mode = 1 → s.stapAAllowed = true → s.naluIn = p :: qs ++ n :: rest →
    (∀ u ∈ s.naluIn, u ≠ [] ∧ s.caps.PortAccepts u.length) → s.caps.PortAccepts s.maxPayloadSize.toNat →
    p.length < s.maxPayloadSize.toNat / 2 →
    (qs = [] ∨ 1 + ((p :: qs).map (fun u => 2 + u.length)).sum < s.maxPayloadSize.toNat) →
    s.maxPayloadSize.toNat ≤ 1 + ((p :: qs ++ [n]).map (fun u => 2 + u.length)).sum →
    let run : Bytes :=
      if qs = [] then p
      else hdr (nalNri (firstByte p)) 24 :: (p :: qs).flatMap (fun u =>
        BitVec.ofNat 8 (u.length / 256) :: BitVec.ofNat 8 (u.length % 256) :: u)
    ∃ recs : List RtpRecord,
      exec (.pack ts) { s with naluIn := n :: rest } = .next { s with naluIn := [], rtpOut := s.rtpOut ++ recs }
      ∧ exec (.pack ts) s = .next { s with naluIn := [], rtpOut := s.rtpOut ++ (⟨run, ts, false⟩ :: recs) }

/-- R96, R97, R102: with aggregation allowed, a first unit of M div 2 bytes or more with others behind it leaves at once, as the
payloads it gives when it is sent alone but with no marker, and the rest of the frame leaves as a frame of its own would. -/
def Obligations.DirectUnitLeavesBeforeTheRestOfItsFrame : Prop :=
  ∀ (ts : Timestamp) (s : State) (n : Bytes) (rest : List Bytes),
    s.live = true → s.mode = 1 → s.stapAAllowed = true → s.naluIn = n :: rest → rest ≠ [] →
    (∀ u ∈ s.naluIn, u ≠ [] ∧ s.caps.PortAccepts u.length ∧ (3 ≤ s.maxPayloadSize.toNat ∨ u.length ≤ s.maxPayloadSize.toNat)) →
    s.caps.PortAccepts s.maxPayloadSize.toNat →
    s.maxPayloadSize.toNat / 2 ≤ n.length →
    ∃ own recs : List RtpRecord,
      exec (.pack ts) { s with naluIn := [n] } = .next { s with naluIn := [], rtpOut := s.rtpOut ++ own }
      ∧ exec (.pack ts) { s with naluIn := rest } = .next { s with naluIn := [], rtpOut := s.rtpOut ++ recs }
      ∧ exec (.pack ts) s = .next { s with
          naluIn := []
          rtpOut := s.rtpOut ++ own.map (fun r => { r with marker := false }) ++ recs }

/-- R96, R97, R101: one unit of at most M bytes is one marked single-NAL payload, aggregation allowed or not. -/
def Obligations.LoneUnitIsASingleNalPayload : Prop :=
  ∀ (ts : Timestamp) (s : State) (n : Bytes), s.live = true → s.mode = 1 → s.naluIn = [n] → n ≠ [] →
    n.length ≤ s.maxPayloadSize.toNat → s.caps.PortAccepts n.length →
    exec (.pack ts) s = .next { s with naluIn := [], rtpOut := s.rtpOut ++ [⟨n, ts, true⟩] }

/-- R102, R103, R60, R61, R62: one unit longer than M >= 3 leaves as ceil((S-1)/(M-2)) >= 2 fragments: the same indicator in each, S on
the first and E and the marker on the last only, bit 5 = 0, M bytes in each but the last and 3..M in the last; their data is the
unit without its header byte. -/
def Obligations.LongUnitIsFragmented : Prop :=
  ∀ (ts : Timestamp) (s : State) (n : Bytes), s.live = true → s.mode = 1 → s.naluIn = [n] →
    3 ≤ s.maxPayloadSize.toNat → s.maxPayloadSize.toNat < n.length → s.caps.PortAccepts n.length →
    ∃ recs : List RtpRecord,
      exec (.pack ts) s = .next { s with naluIn := [], rtpOut := s.rtpOut ++ recs }
      ∧ 2 ≤ recs.length
      ∧ (recs.length - 1) * (s.maxPayloadSize.toNat - 2) < n.length - 1
      ∧ n.length - 1 ≤ recs.length * (s.maxPayloadSize.toNat - 2)
      ∧ recs.flatMap (fun r => r.bytes.drop 2) = n.drop 1
      ∧ ∀ (j : Nat) (r : RtpRecord), recs[j]? = some r →
          r.ts = ts
          ∧ (r.marker = true ↔ j + 1 = recs.length)
          ∧ r.bytes.take 2 = [hdr (nalNri (firstByte n)) 28,
              fuHeaderByte (if j = 0 then 1 else 0) (if j + 1 = recs.length then 1 else 0) 0 (nalType (firstByte n))]
          ∧ (j + 1 < recs.length → r.bytes.length = s.maxPayloadSize.toNat)
          ∧ (j + 1 = recs.length → 3 ≤ r.bytes.length ∧ r.bytes.length ≤ s.maxPayloadSize.toNat)

/-- R100: with aggregation disabled every unit is sent directly, in order: whole if it is not longer than M, else as the fragments of
`fragment` (which LongUnitIsFragmented describes), the marker with the last unit only. -/
def Obligations.AggregationOffSendsEveryUnitDirectly : Prop :=
  ∀ (ts : Timestamp) (s : State), s.live = true → s.mode = 1 → s.stapAAllowed = false →
    (∀ n ∈ s.naluIn, n ≠ [] ∧ s.caps.PortAccepts n.length ∧ (3 ≤ s.maxPayloadSize.toNat ∨ n.length ≤ s.maxPayloadSize.toNat)) →
    exec (.pack ts) s = .next { s with
      naluIn := []
      rtpOut := s.rtpOut ++ (s.naluIn.mapIdx (fun i n =>
        if n.length ≤ s.maxPayloadSize.toNat then [⟨n, ts, decide (i + 1 = s.naluIn.length)⟩]
        else fragment s.maxPayloadSize.toNat ts n (decide (i + 1 = s.naluIn.length)))).flatten }

/-- R104, R99: with M < 3 a unit longer than M refuses the whole Mode-1 `pack`. -/
def Obligations.FragmentingBelowThreeIsRefused : Prop :=
  ∀ (ts : Timestamp) (s : State) (n : Bytes), s.live = true → s.mode = 1 → s.maxPayloadSize.toNat < 3 →
    (∀ x ∈ s.naluIn, x ≠ []) → n ∈ s.naluIn → s.maxPayloadSize.toNat < n.length →
    exec (.pack ts) s = .refused .cannotFragment

/-- R89: `pack` and its rows write nothing but NALU_IN, RTP_OUT and EVT_OUT, and what they do does not depend on the
depacketizer's fields, on the received payloads or on what was delivered before. -/
def Obligations.PackIsPure : Prop :=
  ∀ (i : Instr) (ts : Timestamp), i = .pack ts ∨ i = .packMode0 ts ∨ i = .packMode1 ts ∨ i = .packBadMode ts →
    (∀ s t : State, exec i s = .next t →
      t = { s with naluIn := t.naluIn, rtpOut := t.rtpOut, evtOut := t.evtOut })
    ∧ ∀ (s : State) (l : Timestamp) (r : Option Bytes) (p : List Bytes) (q : List RtpRecord) (o : List Bytes),
        exec i { s with lastTimestamp := l, reasm := r, pending := p, rtpIn := q, naluOut := o }
          = thenNext (exec i s) (fun t => { t with lastTimestamp := l, reasm := r, pending := p, rtpIn := q, naluOut := o })

/-! ### `unpack` and its rows (42_unpack.md) -/

/-- R111, R115: an `unpack` whose payload decodes to a row runs that row between the pre-check of step 1 and the marker of step 4. -/
def Obligations.UnpackRunsThePayloadRow : Prop :=
  ∀ (a : BitVec 32) (s : State) (r : RtpRecord) (rest : List RtpRecord) (i : Instr),
    s.live = true → s.rtpIn = r :: rest → decodePayload r.bytes = .ok i →
    exec (.unpack a) s =
      thenNext (exec i (preCheck r.ts { s with rtpIn := rest })) (markerStep r.marker r.ts)

/-- R113, R127, R128, R129: the whole effect of `unpack` on a payload of any of the 30 single-NAL types: what is flushed at the frame
boundary, the partial unit dropped and logged (code 6), the payload appended, what the marker flushes, and both updates of
last_timestamp. -/
def Obligations.UnpackOfASingleNal : Prop :=
  ∀ (a : BitVec 32) (s : State) (r : RtpRecord) (rest : List RtpRecord) (h : Byte) (body : Bytes),
    s.live = true → s.rtpIn = r :: rest → r.bytes = h :: body → nalType h ≠ 24 → nalType h ≠ 28 →
    let boundary : Bool := decide (r.ts ≠ s.lastTimestamp) && s.reasm.isNone
    let kept := if boundary then [] else s.pending
    let queue := kept ++ [r.bytes]
    s.caps.PortAccepts r.bytes.length → s.caps.PendingHolds queue →
    exec (.unpack a) s = .next { s with
      rtpIn := rest
      naluOut := s.naluOut ++ (if boundary then s.pending else []) ++ (if r.marker then queue else [])
      pending := if r.marker then [] else queue
      reasm := none
      evtOut := s.evtOut ++ (if s.reasm.isSome then [6] else [])
      lastTimestamp := if r.marker || boundary then r.ts else s.lastTimestamp }

/-- R110, R132: without a payload, with an empty one, or with the single byte of an FU indicator, `unpack` is refused. -/
def Obligations.UnpackWithoutAReadablePayloadIsRefused : Prop :=
  ∀ (a : BitVec 32) (s : State), s.live = true →
    (s.rtpIn = [] → exec (.unpack a) s = .refused .noPayload)
    ∧ (∀ (ts : Timestamp) (m : Bool) (rest : List RtpRecord), s.rtpIn = ⟨[], ts, m⟩ :: rest →
        exec (.unpack a) s = .refused .emptyPayload)
    ∧ (∀ (h : Byte) (ts : Timestamp) (m : Bool) (rest : List RtpRecord), s.rtpIn = ⟨[h], ts, m⟩ :: rest →
        nalType h = 28 → exec (.unpack a) s = .refused .fuAWithoutHeader)

/-- R127, R128, R58: each of the 30 single-NAL rows appends its whole payload, byte 0 with its F bit included, and drops and logs a
reassembly in progress (code 6). -/
def Obligations.SingleNalRowsAppendTheWholePayload : Prop :=
  ∀ (f : BitVec 1) (nri : BitVec 2) (rest : Bytes) (s : State), s.live = true →
    s.caps.PortAccepts (rest.length + 1) →
    ∀ row ∈ ([(0, Instr.payloadSingleNalT0), (1, Instr.payloadSingleNalT1), (2, Instr.payloadSingleNalT2),
        (3, Instr.payloadSingleNalT3), (4, Instr.payloadSingleNalT4), (5, Instr.payloadSingleNalT5),
        (6, Instr.payloadSingleNalT6), (7, Instr.payloadSingleNalT7), (8, Instr.payloadSingleNalT8),
        (9, Instr.payloadSingleNalT9), (10, Instr.payloadSingleNalT10), (11, Instr.payloadSingleNalT11),
        (12, Instr.payloadSingleNalT12), (13, Instr.payloadSingleNalT13), (14, Instr.payloadSingleNalT14),
        (15, Instr.payloadSingleNalT15), (16, Instr.payloadSingleNalT16), (17, Instr.payloadSingleNalT17),
        (18, Instr.payloadSingleNalT18), (19, Instr.payloadSingleNalT19), (20, Instr.payloadSingleNalT20),
        (21, Instr.payloadSingleNalT21), (22, Instr.payloadSingleNalT22), (23, Instr.payloadSingleNalT23),
        (25, Instr.payloadSingleNalT25), (26, Instr.payloadSingleNalT26), (27, Instr.payloadSingleNalT27),
        (29, Instr.payloadSingleNalT29), (30, Instr.payloadSingleNalT30), (31, Instr.payloadSingleNalT31)]
        : List (BitVec 5 × (BitVec 1 → BitVec 2 → Bytes → Instr))),
      s.caps.PendingHolds (s.pending ++ [(f ++ nri ++ row.1) :: rest]) →
      exec (row.2 f nri rest) s = .next { s with
        reasm := none
        pending := s.pending ++ [(f ++ nri ++ row.1) :: rest]
        evtOut := s.evtOut ++ (if s.reasm.isSome then [6] else []) }

/-- R116, R118, R119: a STAP-A payload that is a sequence of members, each behind its big-endian size, is split into exactly them,
empty ones included, none of them examined; a reassembly in progress is dropped and logged (code 6). -/
def Obligations.StapASplitsIntoItsMembers : Prop :=
  ∀ (f : BitVec 1) (nri : BitVec 2) (members : List Bytes) (s : State), s.live = true →
    (∀ m ∈ members, m.length < 65536) →
    let rest := members.flatMap (fun m => BitVec.ofNat 8 (m.length / 256) :: BitVec.ofNat 8 (m.length % 256) :: m)
    s.caps.PortAccepts (rest.length + 1) → s.caps.PendingHolds (s.pending ++ members) →
    exec (.payloadStapA f nri rest) s = .next { s with
      reasm := none
      pending := s.pending ++ members
      evtOut := s.evtOut ++ (if s.reasm.isSome then [6] else []) }

/-- R117, R154: behind such members, one stray byte, or a size with fewer bytes left than it announces, ends the walk: the members
split out are kept, the rest is discarded, and one EV_STAPA_MALFORMED (code 3) is pushed last. -/
def Obligations.MalformedStapAKeepsTheMembersBefore : Prop :=
  ∀ (f : BitVec 1) (nri : BitVec 2) (members : List Bytes) (bad : Bytes) (s : State), s.live = true →
    (∀ m ∈ members, m.length < 65536) →
    (bad.length = 1 ∨ ∃ (hi lo : Byte) (left : Bytes), bad = hi :: lo :: left ∧ left.length < hi.toNat * 256 + lo.toNat) →
    let rest := members.flatMap (fun m => BitVec.ofNat 8 (m.length / 256) :: BitVec.ofNat 8 (m.length % 256) :: m) ++ bad
    s.caps.PortAccepts (rest.length + 1) → s.caps.PendingHolds (s.pending ++ members) →
    exec (.payloadStapA f nri rest) s = .next { s with
      reasm := none
      pending := s.pending ++ members
      evtOut := s.evtOut ++ (if s.reasm.isSome then [6] else []) ++ [3] }

/-- R121, R122, R64, R155: a Start fragment begins a unit with the rebuilt header byte, F and bit 5 ignored; a partial unit already
there is lost and logged (code 4). -/
def Obligations.StartFragmentBeginsAUnit : Prop :=
  ∀ (f : BitVec 1) (nri : BitVec 2) (r : BitVec 1) (ty : BitVec 5) (data : Bytes) (s : State), s.live = true →
    s.caps.PortAccepts (data.length + 2) → s.caps.ReasmHolds (data.length + 1) →
    exec (.fuAStart f nri r ty data) s = .next { s with
      reasm := some (((0 : BitVec 1) ++ nri ++ ty) :: data)
      evtOut := s.evtOut ++ (if s.reasm.isSome then [4] else []) }

/-- R123, R124, R156: a middle fragment appends its data to the unit in progress, NRI and FTYPE ignored; with none in progress it is
dropped and logged (code 5). -/
def Obligations.MiddleFragmentExtendsTheUnit : Prop :=
  ∀ (f : BitVec 1) (nri : BitVec 2) (r : BitVec 1) (ty : BitVec 5) (data : Bytes) (s : State), s.live = true →
    s.caps.PortAccepts (data.length + 2) →
    (∀ u : Bytes, s.reasm = some u → s.caps.ReasmHolds (u.length + data.length) →
      exec (.fuAMiddle f nri r ty data) s = .next { s with reasm := some (u ++ data) })
    ∧ (s.reasm = none → exec (.fuAMiddle f nri r ty data) s = .next { s with evtOut := s.evtOut ++ [5] })

/-- R125, R124: an End fragment appends its data and moves the completed unit to CTX.pending; with none in progress it is dropped and
logged (code 5). -/
def Obligations.EndFragmentCompletesTheUnit : Prop :=
  ∀ (f : BitVec 1) (nri : BitVec 2) (r : BitVec 1) (ty : BitVec 5) (data : Bytes) (s : State), s.live = true →
    s.caps.PortAccepts (data.length + 2) →
    (∀ u : Bytes, s.reasm = some u → s.caps.ReasmHolds (u.length + data.length) →
      s.caps.PortAccepts (u.length + data.length) → s.caps.PendingHolds (s.pending ++ [u ++ data]) →
      exec (.fuAEnd f nri r ty data) s = .next { s with reasm := none, pending := s.pending ++ [u ++ data] })
    ∧ (s.reasm = none → exec (.fuAEnd f nri r ty data) s = .next { s with evtOut := s.evtOut ++ [5] })

/-- R126: a fragment with both bits is a whole unit: it goes to CTX.pending at once, a partial unit being lost and logged (code 4). -/
def Obligations.StartEndFragmentIsAWholeUnit : Prop :=
  ∀ (f : BitVec 1) (nri : BitVec 2) (r : BitVec 1) (ty : BitVec 5) (data : Bytes) (s : State), s.live = true →
    s.caps.PortAccepts (data.length + 2) → s.caps.ReasmHolds (data.length + 1) →
    s.caps.PendingHolds (s.pending ++ [((0 : BitVec 1) ++ nri ++ ty) :: data]) →
    exec (.fuAStartEnd f nri r ty data) s = .next { s with
      reasm := none
      pending := s.pending ++ [((0 : BitVec 1) ++ nri ++ ty) :: data]
      evtOut := s.evtOut ++ (if s.reasm.isSome then [4] else []) }

/-- R120, R63, R132: an FU-A payload is the fragment its second byte says; it completes within the capacities; without a second byte it
is refused. -/
def Obligations.FuAPayloadIsItsFragment : Prop :=
  ∀ (f : BitVec 1) (nri : BitVec 2) (fh : Byte) (data : Bytes) (s : State), s.live = true →
    let i := fuARow (fh.getLsbD 7) (fh.getLsbD 6) f nri (fuBit5 fh) (fuType fh) data
    let unit := if fh.getLsbD 7 then hdr nri (fuType fh) :: data else s.reasm.getD [] ++ data
    exec (.payloadFuA f nri (fh :: data)) s = exec i s
    ∧ (s.caps.PortAccepts (data.length + 2) → s.caps.ReasmHolds unit.length → s.caps.PortAccepts unit.length →
        s.caps.PendingHolds (s.pending ++ [unit]) → ∃ t, exec (.payloadFuA f nri (fh :: data)) s = .next t)
    ∧ exec (.payloadFuA f nri []) s = .refused .fuAWithoutHeader

/-- R56, R60, R61, R62, R52, of STAP-A and FU-A payloads and of fragments: on receipt F is ignored, the NRI of a STAP-A header, bit 5 of
an FU header, and in a fragment without Start the NRI and FTYPE as well. (A single-NAL payload keeps its F bit, R127:
SingleNalRowsAppendTheWholePayload.) -/
def Obligations.IgnoredBitsDoNotMatter : Prop :=
  ∀ (f f' : BitVec 1) (nri nri' : BitVec 2) (r r' : BitVec 1) (ty ty' : BitVec 5) (b : Bytes) (s : State),
    exec (.payloadStapA f nri b) s = exec (.payloadStapA f' nri' b) s
    ∧ exec (.payloadFuA f nri b) s = exec (.payloadFuA f' nri b) s
    ∧ exec (.fuAStart f nri r ty b) s = exec (.fuAStart f' nri r' ty b) s
    ∧ exec (.fuAMiddle f nri r ty b) s = exec (.fuAMiddle f' nri' r' ty' b) s
    ∧ exec (.fuAEnd f nri r ty b) s = exec (.fuAEnd f' nri' r' ty' b) s
    ∧ exec (.fuAStartEnd f nri r ty b) s = exec (.fuAStartEnd f' nri r' ty b) s

/-- R130, its five columns, with R121, R123, R125 for CTX.reasm: whenever `unpack` completes, the depacketizer's state, what
CTX.reasm holds, the events pushed, and the units pushed on CTX.pending are those of the table's row. What is pushed is the growth of
NALU_OUT and CTX.pending together, since a flush only moves units from the one to the other (R112). A STAP-A body is whole members and
then nothing, or a malformed tail (R117: one stray byte, or a size that announces more bytes than are left), and EV_STAPA_MALFORMED
(code 3) is pushed exactly in the second case. -/
def Obligations.UnpackFollowsTheStateTable : Prop :=
  ∀ (a : BitVec 32) (s t : State) (r : RtpRecord) (rest : List RtpRecord) (h : Byte) (body : Bytes),
    s.rtpIn = r :: rest → r.bytes = h :: body → exec (.unpack a) s = .next t →
    let S := (body.headD 0).getLsbD 7
    let E := (body.headD 0).getLsbD 6
    let data := body.drop 1
    let was := depacketizer s
    let dropped : List EventCode := if was = .idle then [] else [6]
    let Pushed (units : List Bytes) : Prop := t.naluOut ++ t.pending = s.naluOut ++ s.pending ++ units
    (nalType h ≠ 24 → nalType h ≠ 28 →
      depacketizer t = .idle ∧ t.evtOut = s.evtOut ++ dropped ∧ Pushed [h :: body])
    ∧ (nalType h = 24 →
        depacketizer t = .idle
        ∧ ∃ (members : List Bytes) (bad : Bytes),
            (∀ m ∈ members, m.length < 65536)
            ∧ body = members.flatMap (fun m => BitVec.ofNat 8 (m.length / 256) :: BitVec.ofNat 8 (m.length % 256) :: m) ++ bad
            ∧ Pushed members
            ∧ ((bad = [] ∧ t.evtOut = s.evtOut ++ dropped)
              ∨ ((bad.length = 1 ∨ ∃ (hi lo : Byte) (left : Bytes),
                    bad = hi :: lo :: left ∧ left.length < hi.toNat * 256 + lo.toNat)
                  ∧ t.evtOut = s.evtOut ++ dropped ++ [3])))
    ∧ (nalType h = 28 → S = true →
        let unit := hdr (nalNri h) (fuType (body.headD 0)) :: data
        depacketizer t = (if E then .idle else .reassemblingFuA)
        ∧ t.reasm = (if E then none else some unit)
        ∧ t.evtOut = s.evtOut ++ (if was = .idle then [] else [4])
        ∧ Pushed (if E then [unit] else []))
    ∧ (nalType h = 28 → S = false →
        let unit := s.reasm.map (fun u => u ++ data)
        depacketizer t = (if E then .idle else was)
        ∧ t.reasm = (if E then none else unit)
        ∧ t.evtOut = s.evtOut ++ (if was = .idle then [5] else [])
        ∧ Pushed (if E then unit.toList else []))

/-- R134: NALU_OUT changes only when the marker arrives or a new timestamp is seen while Idle, and then everything that was pending is
delivered, in order; otherwise CTX.pending only grows. A marked payload leaves CTX.pending empty. -/
def Obligations.DeliveryOnlyAtFrameBoundaries : Prop :=
  ∀ (a : BitVec 32) (s t : State) (r : RtpRecord) (rest : List RtpRecord),
    s.rtpIn = r :: rest → exec (.unpack a) s = .next t →
    let boundary := r.marker = true ∨ (r.ts ≠ s.lastTimestamp ∧ s.reasm = none)
    (¬ boundary → t.naluOut = s.naluOut ∧ s.pending <+: t.pending)
    ∧ (boundary → (s.naluOut ++ s.pending) <+: t.naluOut)
    ∧ (r.marker = true → t.pending = [])

/-- R133: `unpack` neither reads nor writes the mode, the size budget or the aggregation switch. -/
def Obligations.UnpackIgnoresTheConfiguration : Prop :=
  ∀ (a : BitVec 32) (s : State) (mode : BitVec 32) (size : BitVec 16) (stapA : Bool),
    exec (.unpack a) { s with mode := mode, maxPayloadSize := size, stapAAllowed := stapA }
      = thenNext (exec (.unpack a) s) (fun t => { t with mode := mode, maxPayloadSize := size, stapAAllowed := stapA })

/-- R131: from a state as `init` leaves it (nothing pending, no reassembly), two runs of any length that differ in last_timestamp
alone stop alike or reach states that differ in last_timestamp alone; and the first `unpack` ends even that difference. -/
def Obligations.SentinelIsUnobservable : Prop :=
  (∀ (a : BitVec 32) (s : State) (x y : Timestamp), s.pending = [] → s.reasm = none →
    exec (.unpack a) { s with lastTimestamp := x } = exec (.unpack a) { s with lastTimestamp := y })
  ∧ ∀ (k : Nat) (s : State) (x y : Timestamp), s.pending = [] → s.reasm = none →
    (∃ e, Host.Core.run Sys2Proof.core k { s with lastTimestamp := x } = .refused e
        ∧ Host.Core.run Sys2Proof.core k { s with lastTimestamp := y } = .refused e)
    ∨ ∃ (t : State) (x' y' : Timestamp),
        Host.Core.run Sys2Proof.core k { s with lastTimestamp := x } = .next { t with lastTimestamp := x' }
        ∧ Host.Core.run Sys2Proof.core k { s with lastTimestamp := y } = .next { t with lastTimestamp := y' }

/-! ### Capacities, events, layouts -/

/-- R44, R161: what needs more than the capacities is refused. `pack`: a queued unit or a payload to be pushed longer than NAL_MAX_LEN.
Each payload and fragment row, by its class: a payload longer than NAL_MAX_LEN, a unit pushed that CTX.pending cannot hold, a
reassembly that CTX.reasm cannot hold. `unpack`: a payload longer than NAL_MAX_LEN, and whatever the row it runs refuses after step 1.
(That PENDING_CAP counts entries and bytes separately, that NAL_MAX_LEN bounds a rebuilt unit too, and where the checks stand is the
model's reading, log entry 7; which refusal is named is its choice, log entry 14.) -/
def Obligations.OverCapacityIsRefused : Prop :=
  ∀ s : State, s.live = true →
    -- `pack`
    (∀ (ts : Timestamp) (n : Bytes), s.mode = 0 ∨ s.mode = 1 → n ∈ s.naluIn → ¬ s.caps.PortAccepts n.length →
      ∃ e, exec (.pack ts) s = .refused e)
    ∧ (∀ (ts : Timestamp) (t : State), exec (.pack ts) { s with caps := Capacities.unbounded } = .next t →
      (∃ r ∈ t.rtpOut.drop s.rtpOut.length, ¬ s.caps.PortAccepts r.bytes.length) →
      exec (.pack ts) s = .refused .overCapacity)
    -- the 30 single-NAL rows
    ∧ (∀ (ty : BitVec 5) (f : BitVec 1) (nri : BitVec 2) (rest : Bytes), ty ≠ 24 → ty ≠ 28 →
      (¬ s.caps.PortAccepts (rest.length + 1) ∨ ¬ s.caps.PendingHolds (s.pending ++ [(f ++ nri ++ ty) :: rest])) →
      exec (payloadRow ty f nri rest) s = .refused .overCapacity)
    -- STAP-A: whole members, and perhaps a malformed tail behind them
    ∧ (∀ (f : BitVec 1) (nri : BitVec 2) (rest : Bytes), ¬ s.caps.PortAccepts (rest.length + 1) →
      exec (.payloadStapA f nri rest) s = .refused .overCapacity)
    ∧ (∀ (f : BitVec 1) (nri : BitVec 2) (members : List Bytes) (bad : Bytes), members ≠ [] →
      (∀ m ∈ members, m.length < 65536) →
      (bad.length ≤ 1 ∨ ∃ (hi lo : Byte) (left : Bytes), bad = hi :: lo :: left ∧ left.length < hi.toNat * 256 + lo.toNat) →
      ¬ s.caps.PendingHolds (s.pending ++ members) →
      exec (.payloadStapA f nri (members.flatMap (fun m =>
        BitVec.ofNat 8 (m.length / 256) :: BitVec.ofNat 8 (m.length % 256) :: m) ++ bad)) s = .refused .overCapacity)
    -- FU-A: the payload row, and the fragment row that its S and E bits select
    ∧ (∀ (f : BitVec 1) (nri : BitVec 2) (fh : Byte) (data : Bytes),
      let unit : Option Bytes :=
        if fh.getLsbD 7 then some (hdr nri (fuType fh) :: data) else s.reasm.map (fun u => u ++ data)
      (¬ s.caps.PortAccepts (data.length + 2)
        ∨ ∃ u ∈ unit, ¬ s.caps.ReasmHolds u.length
            ∨ (fh.getLsbD 6 = true ∧ (¬ s.caps.PortAccepts u.length ∨ ¬ s.caps.PendingHolds (s.pending ++ [u])))) →
      exec (.payloadFuA f nri (fh :: data)) s = .refused .overCapacity
      ∧ exec (fuARow (fh.getLsbD 7) (fh.getLsbD 6) f nri (fuBit5 fh) (fuType fh) data) s = .refused .overCapacity)
    -- `unpack`
    ∧ (∀ (a : BitVec 32) (r : RtpRecord) (rest : List RtpRecord), s.rtpIn = r :: rest →
      (¬ s.caps.PortAccepts r.bytes.length → ∃ e, exec (.unpack a) s = .refused e)
      ∧ (∀ i : Instr, decodePayload r.bytes = .ok i →
          exec i (preCheck r.ts { s with rtpIn := rest }) = .refused .overCapacity →
          exec (.unpack a) s = .refused .overCapacity)
      ∧ (∀ (h : Byte) (body : Bytes), r.bytes = h :: body → nalType h ≠ 24 → nalType h ≠ 28 →
          ¬ s.caps.PendingHolds ((if r.ts ≠ s.lastTimestamp ∧ s.reasm = none then [] else s.pending) ++ [r.bytes]) →
          exec (.unpack a) s = .refused .overCapacity))

/-- R150, R151: the six event rows push their codes and do nothing else. (That an event row is an instruction of its own is the
model's choice, log entry 11.) -/
def Obligations.EventRowsPushTheirCodes : Prop :=
  ∀ s : State,
    exec .evBadMode s = .next { s with evtOut := s.evtOut ++ [1] }
    ∧ exec .evOversize s = .next { s with evtOut := s.evtOut ++ [2] }
    ∧ exec .evStapAMalformed s = .next { s with evtOut := s.evtOut ++ [3] }
    ∧ exec .evFuANestedStart s = .next { s with evtOut := s.evtOut ++ [4] }
    ∧ exec .evFuANoStart s = .next { s with evtOut := s.evtOut ++ [5] }
    ∧ exec .evFuADiscontinued s = .next { s with evtOut := s.evtOut ++ [6] }

/-- The five FORMAT rows are field layouts (R50, R56, R57, R60, R61) and stop by name. (The model's choice, log entry 10.) -/
def Obligations.FormatRowsStop : Prop :=
  ∀ s : State,
    (∀ f nri ty, exec (.formatNalHeader f nri ty) s = .refused .fieldLayout)
    ∧ (∀ f nri, exec (.formatStapAHeader f nri) s = .refused .fieldLayout)
    ∧ (∀ size, exec (.formatStapASize size) s = .refused .fieldLayout)
    ∧ (∀ f nri, exec (.formatFuIndicator f nri) s = .refused .fieldLayout)
    ∧ (∀ b7 b6 b5 ty, exec (.formatFuHeader b7 b6 b5 ty) s = .refused .fieldLayout)

/-! ### Whole-machine statements -/

/-- The write half of R23's access table, for the seven commands: a command writes no field that its row does not list. -/
def Obligations.CommandsWriteOnlyTheirFields : Prop :=
  ∀ (a : BitVec 32) (s t : State),
    (exec (.init a) s = .next t → t = { s with
      live := t.live, mode := t.mode, maxPayloadSize := t.maxPayloadSize, stapAAllowed := t.stapAAllowed,
      lastTimestamp := t.lastTimestamp, reasm := t.reasm, pending := t.pending })
    ∧ (exec (.setMode a) s = .next t → t = { s with mode := t.mode })
    ∧ (exec (.enableStapA a) s = .next t → t = { s with stapAAllowed := t.stapAAllowed })
    ∧ (exec (.setMaxPayloadSize a) s = .next t → t = { s with maxPayloadSize := t.maxPayloadSize })
    ∧ (exec (.pack a) s = .next t → t = { s with naluIn := t.naluIn, rtpOut := t.rtpOut, evtOut := t.evtOut })
    ∧ (exec (.unpack a) s = .next t → t = { s with
      lastTimestamp := t.lastTimestamp, reasm := t.reasm, pending := t.pending, rtpIn := s.rtpIn.drop 1,
      naluOut := t.naluOut, evtOut := t.evtOut })
    ∧ (exec (.uninit a) s = .next t → t = { s with live := t.live, reasm := t.reasm, pending := t.pending })

/-- R22, R34, R45: a step only pops from NALU_IN and RTP_IN and only pushes to RTP_OUT, NALU_OUT and EVT_OUT. (The clauses on `cmdIn`
and `caps` are about the model's own fields, DESIGN CHOICE: a step takes at most the oldest command word of the port, log entry 1, and
never changes the capacities, log entry 7.) -/
def Obligations.StepsOnlyPopInputsAndPushOutputs : Prop :=
  ∀ s t : State, step s = .next t →
    t.naluIn <:+ s.naluIn ∧ t.rtpIn <:+ s.rtpIn ∧ t.cmdIn = s.cmdIn.drop 1
    ∧ s.rtpOut <+: t.rtpOut ∧ s.naluOut <+: t.naluOut ∧ s.evtOut <+: t.evtOut
    ∧ t.caps = s.caps

/-- R24, R44: every step keeps the Context's invariant, from every state that has it. -/
def Obligations.EveryStepKeepsTheContextInv : Prop :=
  ∀ s t : State, s.ContextInv → step s = .next t → t.ContextInv

/-- The state after reset has the Context's invariant. -/
def Obligations.ResetMeetsTheContextInv : Prop := State.reset.ContextInv

/-- R137, R64: the fragments of one unit with F = 0, fed in order to an Idle receiver, are rebuilt into exactly that unit. Until the
last of them nothing is appended or delivered; then the unit is delivered behind what was pending if it was marked, or waits. The
unit's timestamp is the one last seen, so that step 1 does not act. -/
def Obligations.FragmentsRebuildTheirUnit : Prop :=
  ∀ (M : Nat) (ts : Timestamp) (n : Bytes) (last : Bool) (a : BitVec 32) (rx : State) (tail : List RtpRecord)
    (cmds : List CommandWord),
    3 ≤ M → M < n.length → nalF (firstByte n) = 0 →
    rx.live = true → rx.caps = Capacities.unbounded → rx.reasm = none → rx.lastTimestamp = ts →
    let frags := fragment M ts n last
    let start : State := { rx with rtpIn := frags ++ tail, cmdIn := List.replicate frags.length (commandWord 5 a) ++ cmds }
    Host.Core.run Sys2Proof.core frags.length start = .next { rx with
      rtpIn := tail
      cmdIn := cmds
      naluOut := rx.naluOut ++ (if last then rx.pending ++ [n] else [])
      pending := if last then [] else rx.pending ++ [n] }
    ∧ ∀ k, k < frags.length → ∃ u : State, Host.Core.run Sys2Proof.core k start = .next u
        ∧ u.naluOut = rx.naluOut ∧ u.pending = rx.pending

/-- R108: one frame, packed in mode 1 and unpacked payload by payload by an Idle receiver with nothing pending, comes out as exactly
the original units in the original order, all of it during the last `unpack`, with no event, under the rule's conditions: at least
one unit, none empty, M >= 3, none of type 24 or 28, F = 0 on each unit longer than M. -/
def Obligations.PackThenUnpackRoundTrip : Prop :=
  ∀ (ts : Timestamp) (a : BitVec 32) (tx rx : State) (tail : List RtpRecord) (cmds : List CommandWord),
    tx.live = true → tx.mode = 1 → 3 ≤ tx.maxPayloadSize.toNat → tx.caps = Capacities.unbounded → tx.naluIn ≠ [] →
    (∀ n ∈ tx.naluIn, n ≠ [] ∧ nalType (firstByte n) ≠ 24 ∧ nalType (firstByte n) ≠ 28
      ∧ (tx.maxPayloadSize.toNat < n.length → nalF (firstByte n) = 0)) →
    rx.live = true → rx.caps = Capacities.unbounded → rx.reasm = none → rx.pending = [] →
    ∃ recs : List RtpRecord,
      exec (.pack ts) tx = .next { tx with naluIn := [], rtpOut := tx.rtpOut ++ recs }
      ∧ (let start : State :=
          { rx with rtpIn := recs ++ tail, cmdIn := List.replicate recs.length (commandWord 5 a) ++ cmds }
        Host.Core.run Sys2Proof.core recs.length start = .next { rx with
          rtpIn := tail
          cmdIn := cmds
          naluOut := rx.naluOut ++ tx.naluIn
          lastTimestamp := ts }
        ∧ ∀ k, k < recs.length → ∃ u : State, Host.Core.run Sys2Proof.core k start = .next u ∧ u.naluOut = rx.naluOut)
end

