-- ==== Sys2Proof/Laws/Bits.lean ====
section
/-! SUPPORT. The fields of header bytes, size prefixes and command words are read back as they were written. -/

namespace Sys2Proof

open Sys2Proof.Machine

@[simp] theorem nalF_headerByte : ∀ (f : BitVec 1) (nri : BitVec 2) (ty : BitVec 5), nalF (headerByte f nri ty) = f := by
  decide +kernel

@[simp] theorem nalNri_headerByte : ∀ (f : BitVec 1) (nri : BitVec 2) (ty : BitVec 5), nalNri (headerByte f nri ty) = nri := by
  decide +kernel

@[simp] theorem nalType_headerByte : ∀ (f : BitVec 1) (nri : BitVec 2) (ty : BitVec 5), nalType (headerByte f nri ty) = ty := by
  decide +kernel

@[simp] theorem headerByte_of_fields : ∀ h : Byte, headerByte (nalF h) (nalNri h) (nalType h) = h := by
  decide +kernel

@[simp] theorem nalF_hdr (nri : BitVec 2) (ty : BitVec 5) : nalF (hdr nri ty) = 0 := nalF_headerByte 0 nri ty

@[simp] theorem nalNri_hdr (nri : BitVec 2) (ty : BitVec 5) : nalNri (hdr nri ty) = nri := nalNri_headerByte 0 nri ty

@[simp] theorem nalType_hdr (nri : BitVec 2) (ty : BitVec 5) : nalType (hdr nri ty) = ty := nalType_headerByte 0 nri ty

/-- A header byte with F = 0 is rebuilt from its NRI and type alone (R51, R64). -/
theorem hdr_of_fields (h : Byte) (hf : nalF h = 0) : hdr (nalNri h) (nalType h) = h := by
  rw [hdr, ← hf, headerByte_of_fields]

@[simp] theorem fuStart_fuHeaderByte : ∀ (s e r : BitVec 1) (ty : BitVec 5), fuStart (fuHeaderByte s e r ty) = decide (s = 1) := by
  decide +kernel

@[simp] theorem fuEnd_fuHeaderByte : ∀ (s e r : BitVec 1) (ty : BitVec 5), fuEnd (fuHeaderByte s e r ty) = decide (e = 1) := by
  decide +kernel

@[simp] theorem fuBit5_fuHeaderByte : ∀ (s e r : BitVec 1) (ty : BitVec 5), fuBit5 (fuHeaderByte s e r ty) = r := by
  decide +kernel

@[simp] theorem fuType_fuHeaderByte : ∀ (s e r : BitVec 1) (ty : BitVec 5), fuType (fuHeaderByte s e r ty) = ty := by
  decide +kernel

@[simp] theorem fuStart_fuHdr : ∀ (a b : Bool) (ty : BitVec 5), fuStart (fuHdr a b ty) = a := by
  decide +kernel

@[simp] theorem fuEnd_fuHdr : ∀ (a b : Bool) (ty : BitVec 5), fuEnd (fuHdr a b ty) = b := by
  decide +kernel

@[simp] theorem fuType_fuHdr : ∀ (a b : Bool) (ty : BitVec 5), fuType (fuHdr a b ty) = ty := by
  decide +kernel

@[simp] theorem be16_length (v : Nat) : (be16 v).length = 2 := rfl

/-- BE16 then be16 is the identity on every size that fits (R57). -/
theorem readBe16_be16 (v : Nat) (hv : v < 65536) :
    readBe16 (BitVec.ofNat 8 (v / 256)) (BitVec.ofNat 8 (v % 256)) = v := by
  simp only [readBe16, BitVec.toNat_ofNat]
  omega

@[simp] theorem commandOp_commandWord (op : BitVec 3) (arg : BitVec 32) : commandOp (commandWord op arg) = op := by
  apply BitVec.eq_of_getLsbD_eq
  intro i hi
  refine (BitVec.getLsbD_extractLsb' ..).trans ?_
  rw [show (commandWord op arg).getLsbD (32 + i) = (if 32 + i < 32 then arg.getLsbD (32 + i) else op.getLsbD (32 + i - 32))
    from BitVec.getLsbD_append ..]
  simp [hi]

@[simp] theorem commandArg_commandWord (op : BitVec 3) (arg : BitVec 32) : commandArg (commandWord op arg) = arg := by
  apply BitVec.eq_of_getLsbD_eq
  intro i hi
  refine (BitVec.getLsbD_extractLsb' ..).trans ?_
  rw [show (commandWord op arg).getLsbD (0 + i) = (if 0 + i < 32 then arg.getLsbD (0 + i) else op.getLsbD (0 + i - 32))
    from BitVec.getLsbD_append ..]
  simp [hi]

theorem readBe16_lt (hi lo : Byte) : readBe16 hi lo < 65536 := by
  unfold readBe16; omega

/-- A prefix that reads as `n` is the big-endian `n` (R57). -/
theorem be16_bytes_of_readBe16 (hi lo : Byte) :
    BitVec.ofNat 8 (readBe16 hi lo / 256) = hi ∧ BitVec.ofNat 8 (readBe16 hi lo % 256) = lo := by
  constructor <;> apply BitVec.eq_of_toNat_eq <;> simp [readBe16] <;> omega

end Sys2Proof
end

