-- ==== Sys2Proof/Laws/State.lean ====
section
/-! SUPPORT. What each named update of the state does to each field. -/

namespace Sys2Proof.Machine

@[simp] theorem pushEvent_live (c : EventCode) (s : State) : (pushEvent c s).live = s.live := rfl
@[simp] theorem pushEvent_mode (c : EventCode) (s : State) : (pushEvent c s).mode = s.mode := rfl
@[simp] theorem pushEvent_maxPayloadSize (c : EventCode) (s : State) : (pushEvent c s).maxPayloadSize = s.maxPayloadSize := rfl
@[simp] theorem pushEvent_stapAAllowed (c : EventCode) (s : State) : (pushEvent c s).stapAAllowed = s.stapAAllowed := rfl
@[simp] theorem pushEvent_lastTimestamp (c : EventCode) (s : State) : (pushEvent c s).lastTimestamp = s.lastTimestamp := rfl
@[simp] theorem pushEvent_reasm (c : EventCode) (s : State) : (pushEvent c s).reasm = s.reasm := rfl
@[simp] theorem pushEvent_pending (c : EventCode) (s : State) : (pushEvent c s).pending = s.pending := rfl
@[simp] theorem pushEvent_naluIn (c : EventCode) (s : State) : (pushEvent c s).naluIn = s.naluIn := rfl
@[simp] theorem pushEvent_rtpOut (c : EventCode) (s : State) : (pushEvent c s).rtpOut = s.rtpOut := rfl
@[simp] theorem pushEvent_rtpIn (c : EventCode) (s : State) : (pushEvent c s).rtpIn = s.rtpIn := rfl
@[simp] theorem pushEvent_naluOut (c : EventCode) (s : State) : (pushEvent c s).naluOut = s.naluOut := rfl
@[simp] theorem pushEvent_evtOut (c : EventCode) (s : State) : (pushEvent c s).evtOut = s.evtOut ++ [c] := rfl
@[simp] theorem pushEvent_cmdIn (c : EventCode) (s : State) : (pushEvent c s).cmdIn = s.cmdIn := rfl
@[simp] theorem pushEvent_caps (c : EventCode) (s : State) : (pushEvent c s).caps = s.caps := rfl

@[simp] theorem pushEvents_live (cs : List EventCode) (s : State) : (pushEvents cs s).live = s.live := rfl
@[simp] theorem pushEvents_mode (cs : List EventCode) (s : State) : (pushEvents cs s).mode = s.mode := rfl
@[simp] theorem pushEvents_maxPayloadSize (cs : List EventCode) (s : State) : (pushEvents cs s).maxPayloadSize = s.maxPayloadSize := rfl
@[simp] theorem pushEvents_stapAAllowed (cs : List EventCode) (s : State) : (pushEvents cs s).stapAAllowed = s.stapAAllowed := rfl
@[simp] theorem pushEvents_lastTimestamp (cs : List EventCode) (s : State) : (pushEvents cs s).lastTimestamp = s.lastTimestamp := rfl
@[simp] theorem pushEvents_reasm (cs : List EventCode) (s : State) : (pushEvents cs s).reasm = s.reasm := rfl
@[simp] theorem pushEvents_pending (cs : List EventCode) (s : State) : (pushEvents cs s).pending = s.pending := rfl
@[simp] theorem pushEvents_naluIn (cs : List EventCode) (s : State) : (pushEvents cs s).naluIn = s.naluIn := rfl
@[simp] theorem pushEvents_rtpOut (cs : List EventCode) (s : State) : (pushEvents cs s).rtpOut = s.rtpOut := rfl
@[simp] theorem pushEvents_rtpIn (cs : List EventCode) (s : State) : (pushEvents cs s).rtpIn = s.rtpIn := rfl
@[simp] theorem pushEvents_naluOut (cs : List EventCode) (s : State) : (pushEvents cs s).naluOut = s.naluOut := rfl
@[simp] theorem pushEvents_evtOut (cs : List EventCode) (s : State) : (pushEvents cs s).evtOut = s.evtOut ++ cs := rfl
@[simp] theorem pushEvents_cmdIn (cs : List EventCode) (s : State) : (pushEvents cs s).cmdIn = s.cmdIn := rfl
@[simp] theorem pushEvents_caps (cs : List EventCode) (s : State) : (pushEvents cs s).caps = s.caps := rfl

@[simp] theorem emitRecords_live (rs : List RtpRecord) (s : State) : (emitRecords rs s).live = s.live := rfl
@[simp] theorem emitRecords_mode (rs : List RtpRecord) (s : State) : (emitRecords rs s).mode = s.mode := rfl
@[simp] theorem emitRecords_maxPayloadSize (rs : List RtpRecord) (s : State) : (emitRecords rs s).maxPayloadSize = s.maxPayloadSize := rfl
@[simp] theorem emitRecords_stapAAllowed (rs : List RtpRecord) (s : State) : (emitRecords rs s).stapAAllowed = s.stapAAllowed := rfl
@[simp] theorem emitRecords_lastTimestamp (rs : List RtpRecord) (s : State) : (emitRecords rs s).lastTimestamp = s.lastTimestamp := rfl
@[simp] theorem emitRecords_reasm (rs : List RtpRecord) (s : State) : (emitRecords rs s).reasm = s.reasm := rfl
@[simp] theorem emitRecords_pending (rs : List RtpRecord) (s : State) : (emitRecords rs s).pending = s.pending := rfl
@[simp] theorem emitRecords_naluIn (rs : List RtpRecord) (s : State) : (emitRecords rs s).naluIn = s.naluIn := rfl
@[simp] theorem emitRecords_rtpOut (rs : List RtpRecord) (s : State) : (emitRecords rs s).rtpOut = s.rtpOut ++ rs := rfl
@[simp] theorem emitRecords_rtpIn (rs : List RtpRecord) (s : State) : (emitRecords rs s).rtpIn = s.rtpIn := rfl
@[simp] theorem emitRecords_naluOut (rs : List RtpRecord) (s : State) : (emitRecords rs s).naluOut = s.naluOut := rfl
@[simp] theorem emitRecords_evtOut (rs : List RtpRecord) (s : State) : (emitRecords rs s).evtOut = s.evtOut := rfl
@[simp] theorem emitRecords_cmdIn (rs : List RtpRecord) (s : State) : (emitRecords rs s).cmdIn = s.cmdIn := rfl
@[simp] theorem emitRecords_caps (rs : List RtpRecord) (s : State) : (emitRecords rs s).caps = s.caps := rfl

@[simp] theorem drainNaluIn_live (s : State) : (drainNaluIn s).live = s.live := rfl
@[simp] theorem drainNaluIn_mode (s : State) : (drainNaluIn s).mode = s.mode := rfl
@[simp] theorem drainNaluIn_maxPayloadSize (s : State) : (drainNaluIn s).maxPayloadSize = s.maxPayloadSize := rfl
@[simp] theorem drainNaluIn_stapAAllowed (s : State) : (drainNaluIn s).stapAAllowed = s.stapAAllowed := rfl
@[simp] theorem drainNaluIn_lastTimestamp (s : State) : (drainNaluIn s).lastTimestamp = s.lastTimestamp := rfl
@[simp] theorem drainNaluIn_reasm (s : State) : (drainNaluIn s).reasm = s.reasm := rfl
@[simp] theorem drainNaluIn_pending (s : State) : (drainNaluIn s).pending = s.pending := rfl
@[simp] theorem drainNaluIn_naluIn (s : State) : (drainNaluIn s).naluIn = [] := rfl
@[simp] theorem drainNaluIn_rtpOut (s : State) : (drainNaluIn s).rtpOut = s.rtpOut := rfl
@[simp] theorem drainNaluIn_rtpIn (s : State) : (drainNaluIn s).rtpIn = s.rtpIn := rfl
@[simp] theorem drainNaluIn_naluOut (s : State) : (drainNaluIn s).naluOut = s.naluOut := rfl
@[simp] theorem drainNaluIn_evtOut (s : State) : (drainNaluIn s).evtOut = s.evtOut := rfl
@[simp] theorem drainNaluIn_cmdIn (s : State) : (drainNaluIn s).cmdIn = s.cmdIn := rfl
@[simp] theorem drainNaluIn_caps (s : State) : (drainNaluIn s).caps = s.caps := rfl

@[simp] theorem pushPending_live (us : List Bytes) (s : State) : (pushPending us s).live = s.live := rfl
@[simp] theorem pushPending_mode (us : List Bytes) (s : State) : (pushPending us s).mode = s.mode := rfl
@[simp] theorem pushPending_maxPayloadSize (us : List Bytes) (s : State) : (pushPending us s).maxPayloadSize = s.maxPayloadSize := rfl
@[simp] theorem pushPending_stapAAllowed (us : List Bytes) (s : State) : (pushPending us s).stapAAllowed = s.stapAAllowed := rfl
@[simp] theorem pushPending_lastTimestamp (us : List Bytes) (s : State) : (pushPending us s).lastTimestamp = s.lastTimestamp := rfl
@[simp] theorem pushPending_reasm (us : List Bytes) (s : State) : (pushPending us s).reasm = s.reasm := rfl
@[simp] theorem pushPending_pending (us : List Bytes) (s : State) : (pushPending us s).pending = s.pending ++ us := rfl
@[simp] theorem pushPending_naluIn (us : List Bytes) (s : State) : (pushPending us s).naluIn = s.naluIn := rfl
@[simp] theorem pushPending_rtpOut (us : List Bytes) (s : State) : (pushPending us s).rtpOut = s.rtpOut := rfl
@[simp] theorem pushPending_rtpIn (us : List Bytes) (s : State) : (pushPending us s).rtpIn = s.rtpIn := rfl
@[simp] theorem pushPending_naluOut (us : List Bytes) (s : State) : (pushPending us s).naluOut = s.naluOut := rfl
@[simp] theorem pushPending_evtOut (us : List Bytes) (s : State) : (pushPending us s).evtOut = s.evtOut := rfl
@[simp] theorem pushPending_cmdIn (us : List Bytes) (s : State) : (pushPending us s).cmdIn = s.cmdIn := rfl
@[simp] theorem pushPending_caps (us : List Bytes) (s : State) : (pushPending us s).caps = s.caps := rfl

@[simp] theorem setReasm_live (r : Option Bytes) (s : State) : (setReasm r s).live = s.live := rfl
@[simp] theorem setReasm_mode (r : Option Bytes) (s : State) : (setReasm r s).mode = s.mode := rfl
@[simp] theorem setReasm_maxPayloadSize (r : Option Bytes) (s : State) : (setReasm r s).maxPayloadSize = s.maxPayloadSize := rfl
@[simp] theorem setReasm_stapAAllowed (r : Option Bytes) (s : State) : (setReasm r s).stapAAllowed = s.stapAAllowed := rfl
@[simp] theorem setReasm_lastTimestamp (r : Option Bytes) (s : State) : (setReasm r s).lastTimestamp = s.lastTimestamp := rfl
@[simp] theorem setReasm_reasm (r : Option Bytes) (s : State) : (setReasm r s).reasm = r := rfl
@[simp] theorem setReasm_pending (r : Option Bytes) (s : State) : (setReasm r s).pending = s.pending := rfl
@[simp] theorem setReasm_naluIn (r : Option Bytes) (s : State) : (setReasm r s).naluIn = s.naluIn := rfl
@[simp] theorem setReasm_rtpOut (r : Option Bytes) (s : State) : (setReasm r s).rtpOut = s.rtpOut := rfl
@[simp] theorem setReasm_rtpIn (r : Option Bytes) (s : State) : (setReasm r s).rtpIn = s.rtpIn := rfl
@[simp] theorem setReasm_naluOut (r : Option Bytes) (s : State) : (setReasm r s).naluOut = s.naluOut := rfl
@[simp] theorem setReasm_evtOut (r : Option Bytes) (s : State) : (setReasm r s).evtOut = s.evtOut := rfl
@[simp] theorem setReasm_cmdIn (r : Option Bytes) (s : State) : (setReasm r s).cmdIn = s.cmdIn := rfl
@[simp] theorem setReasm_caps (r : Option Bytes) (s : State) : (setReasm r s).caps = s.caps := rfl

@[simp] theorem setLastTimestamp_live (ts : Timestamp) (s : State) : (setLastTimestamp ts s).live = s.live := rfl
@[simp] theorem setLastTimestamp_mode (ts : Timestamp) (s : State) : (setLastTimestamp ts s).mode = s.mode := rfl
@[simp] theorem setLastTimestamp_maxPayloadSize (ts : Timestamp) (s : State) : (setLastTimestamp ts s).maxPayloadSize = s.maxPayloadSize := rfl
@[simp] theorem setLastTimestamp_stapAAllowed (ts : Timestamp) (s : State) : (setLastTimestamp ts s).stapAAllowed = s.stapAAllowed := rfl
@[simp] theorem setLastTimestamp_lastTimestamp (ts : Timestamp) (s : State) : (setLastTimestamp ts s).lastTimestamp = ts := rfl
@[simp] theorem setLastTimestamp_reasm (ts : Timestamp) (s : State) : (setLastTimestamp ts s).reasm = s.reasm := rfl
@[simp] theorem setLastTimestamp_pending (ts : Timestamp) (s : State) : (setLastTimestamp ts s).pending = s.pending := rfl
@[simp] theorem setLastTimestamp_naluIn (ts : Timestamp) (s : State) : (setLastTimestamp ts s).naluIn = s.naluIn := rfl
@[simp] theorem setLastTimestamp_rtpOut (ts : Timestamp) (s : State) : (setLastTimestamp ts s).rtpOut = s.rtpOut := rfl
@[simp] theorem setLastTimestamp_rtpIn (ts : Timestamp) (s : State) : (setLastTimestamp ts s).rtpIn = s.rtpIn := rfl
@[simp] theorem setLastTimestamp_naluOut (ts : Timestamp) (s : State) : (setLastTimestamp ts s).naluOut = s.naluOut := rfl
@[simp] theorem setLastTimestamp_evtOut (ts : Timestamp) (s : State) : (setLastTimestamp ts s).evtOut = s.evtOut := rfl
@[simp] theorem setLastTimestamp_cmdIn (ts : Timestamp) (s : State) : (setLastTimestamp ts s).cmdIn = s.cmdIn := rfl
@[simp] theorem setLastTimestamp_caps (ts : Timestamp) (s : State) : (setLastTimestamp ts s).caps = s.caps := rfl

@[simp] theorem flush_live (s : State) : (flush s).live = s.live := rfl
@[simp] theorem flush_mode (s : State) : (flush s).mode = s.mode := rfl
@[simp] theorem flush_maxPayloadSize (s : State) : (flush s).maxPayloadSize = s.maxPayloadSize := rfl
@[simp] theorem flush_stapAAllowed (s : State) : (flush s).stapAAllowed = s.stapAAllowed := rfl
@[simp] theorem flush_lastTimestamp (s : State) : (flush s).lastTimestamp = s.lastTimestamp := rfl
@[simp] theorem flush_reasm (s : State) : (flush s).reasm = s.reasm := rfl
@[simp] theorem flush_pending (s : State) : (flush s).pending = [] := rfl
@[simp] theorem flush_naluIn (s : State) : (flush s).naluIn = s.naluIn := rfl
@[simp] theorem flush_rtpOut (s : State) : (flush s).rtpOut = s.rtpOut := rfl
@[simp] theorem flush_rtpIn (s : State) : (flush s).rtpIn = s.rtpIn := rfl
@[simp] theorem flush_naluOut (s : State) : (flush s).naluOut = s.naluOut ++ s.pending := rfl
@[simp] theorem flush_evtOut (s : State) : (flush s).evtOut = s.evtOut := rfl
@[simp] theorem flush_cmdIn (s : State) : (flush s).cmdIn = s.cmdIn := rfl
@[simp] theorem flush_caps (s : State) : (flush s).caps = s.caps := rfl

end Sys2Proof.Machine
end

