-- ==== Sys2Proof/Laws/Ops.lean ====
section
/-! SUPPORT. One lemma for each shared operation that says once what it can do. -/

namespace Sys2Proof.Machine

/-- What runs under `whileLive` answers next only with a Context. -/
theorem whileLive_next {s t : State} {k : Result} (h : whileLive s k = .next t) : s.live = true ∧ k = .next t := by
  unfold whileLive at h
  split at h
  · exact ⟨‹_›, h⟩
  · cases h

@[simp] theorem whileLive_live {s : State} (k : Result) (h : s.live = true) : whileLive s k = k := by simp [whileLive, h]

@[simp] theorem whileLive_dead {s : State} (k : Result) (h : s.live = false) : whileLive s k = .refused .noContext := by
  simp [whileLive, h]

theorem thenNext_next {r : Result} {f : State → State} {t : State} (h : thenNext r f = .next t) :
    ∃ u, r = .next u ∧ t = f u := by
  cases r with
  | next u => exact ⟨u, rfl, by simpa [thenNext] using h.symm⟩
  | fault e => cases h
  | refused e => cases h

@[simp] theorem withinCap_none (n : Nat) : withinCap none n = true := rfl

@[simp] theorem withinCap_some (c n : Nat) : (withinCap (some c) n = true) = (n ≤ c) := by simp [withinCap]

/-- A capacity as a proposition: every bound there is holds. -/
theorem withinCap_iff (cap : Option Nat) (n : Nat) : withinCap cap n = true ↔ ∀ m ∈ cap, n ≤ m := by
  cases cap <;> simp [withinCap]

@[simp] theorem admitsLength_unbounded (n : Nat) : admitsLength Capacities.unbounded n = true := rfl

@[simp] theorem reasmAdmits_unbounded (r : Option Bytes) : reasmAdmits Capacities.unbounded r = true := by
  cases r <;> rfl

@[simp] theorem pendingAdmits_unbounded (q us : List Bytes) : pendingAdmits Capacities.unbounded q us = true := by
  simp [pendingAdmits, Capacities.unbounded, admitsLength]

/-- Step 1 acts exactly when the timestamp is new and no reassembly is in progress (R113). -/
theorem preCheck_cases (ts : Timestamp) (s : State) :
    (ts ≠ s.lastTimestamp ∧ s.reasm = none ∧ preCheck ts s = setLastTimestamp ts (flush s))
    ∨ ((ts = s.lastTimestamp ∨ s.reasm ≠ none) ∧ preCheck ts s = s) := by
  unfold preCheck
  split
  · rename_i h; exact .inl ⟨h.1, h.2, rfl⟩
  · rename_i h
    refine .inr ⟨?_, rfl⟩
    by_cases h1 : ts = s.lastTimestamp
    · exact .inl h1
    · exact .inr fun h2 => h ⟨h1, h2⟩

@[simp] theorem preCheck_live (ts : Timestamp) (s : State) : (preCheck ts s).live = s.live := by
  unfold preCheck; split <;> rfl

@[simp] theorem preCheck_reasm (ts : Timestamp) (s : State) : (preCheck ts s).reasm = s.reasm := by
  unfold preCheck; split <;> rfl

@[simp] theorem preCheck_evtOut (ts : Timestamp) (s : State) : (preCheck ts s).evtOut = s.evtOut := by
  unfold preCheck; split <;> rfl

@[simp] theorem preCheck_caps (ts : Timestamp) (s : State) : (preCheck ts s).caps = s.caps := by
  unfold preCheck; split <;> rfl

/-- Step 4 (R129). -/
theorem markerStep_true (ts : Timestamp) (s : State) : markerStep true ts s = setLastTimestamp ts (flush s) := rfl

theorem markerStep_false (ts : Timestamp) (s : State) : markerStep false ts s = s := rfl

@[simp] theorem markerStep_reasm (m : Bool) (ts : Timestamp) (s : State) : (markerStep m ts s).reasm = s.reasm := by
  cases m <;> rfl

@[simp] theorem markerStep_evtOut (m : Bool) (ts : Timestamp) (s : State) : (markerStep m ts s).evtOut = s.evtOut := by
  cases m <;> rfl

@[simp] theorem markerStep_caps (m : Bool) (ts : Timestamp) (s : State) : (markerStep m ts s).caps = s.caps := by
  cases m <;> rfl

/-- A payload that is no fragment leaves the depacketizer Idle, with one event if a unit was lost (R118, R128). -/
theorem dropReassembly_eq (s : State) :
    dropReassembly s =
      { s with reasm := none, evtOut := s.evtOut ++ (if s.reasm.isSome then [codeFuADiscontinued] else []) } := by
  cases h : s.reasm with
  | none => cases s; simp_all [dropReassembly]
  | some r => simp [dropReassembly, h, pushEvent, setReasm]

/-- If UNPACK_SINGLE answers next, the payload was within the capacities and is the newest pending unit (R127). -/
theorem unpackSingle_next {b : Bytes} {s t : State} (h : unpackSingle b s = .next t) :
    admitsLength s.caps b.length = true ∧ pendingAdmits s.caps s.pending [b] = true
      ∧ t = pushPending [b] (dropReassembly s) := by
  unfold unpackSingle at h
  split at h
  · rename_i hc
    simp only [Bool.and_eq_true] at hc
    exact ⟨hc.1, hc.2, by simpa using h.symm⟩
  · cases h

/-- If UNPACK_STAP_A answers next, the members of the walk are the newest pending units (R116, R117). -/
theorem unpackStapA_next {b : Bytes} {s t : State} (h : unpackStapA b s = .next t) :
    admitsLength s.caps b.length = true ∧ pendingAdmits s.caps s.pending (stapWalk b.length (b.drop 1)).1 = true
      ∧ t = (if (stapWalk b.length (b.drop 1)).2 then
              pushEvent codeStapAMalformed (pushPending (stapWalk b.length (b.drop 1)).1 (dropReassembly s))
            else pushPending (stapWalk b.length (b.drop 1)).1 (dropReassembly s)) := by
  unfold unpackStapA at h
  simp only at h
  split at h
  · rename_i hc
    simp only [Bool.and_eq_true] at hc
    exact ⟨hc.1, hc.2, by simpa using h.symm⟩
  · cases h

/-- If the FU-A part answers next, it is the first part, followed by the End part where E is set (R120). -/
theorem runFuA_next {start stop : Bool} {header : Byte} {data : Bytes} {s t : State}
    (h : runFuA start stop header data s = .next t) :
    ∃ first, first = (if start then fuAStartPart header data s else fuAContinuePart data s)
      ∧ admitsLength s.caps (data.length + 2) = true ∧ reasmAdmits s.caps first.reasm = true
      ∧ ((stop = true ∧ pendingAdmits s.caps first.pending first.reasm.toList = true ∧ t = fuAEndPart first)
        ∨ (stop = false ∧ t = first)) := by
  refine ⟨_, rfl, ?_⟩
  unfold runFuA at h
  generalize (if start then fuAStartPart header data s else fuAContinuePart data s) = first at h ⊢
  simp only at h
  split at h
  · rename_i hc
    simp only [Bool.and_eq_true] at hc
    refine ⟨hc.1, hc.2, ?_⟩
    cases stop with
    | true =>
      simp only [if_true] at h
      split at h
      · exact .inl ⟨rfl, ‹_›, by simpa using h.symm⟩
      · cases h
    | false => exact .inr ⟨rfl, by simpa using h.symm⟩
  · cases h

/-- If `unpack` answers next there was a Context and a payload, and step 3 ran between steps 1 and 4 (R111). -/
theorem execUnpack_next {arg : BitVec 32} {s t : State} (h : execUnpack arg s = .next t) :
    s.live = true ∧ ∃ r rest u, s.rtpIn = r :: rest
      ∧ unpackPayload r.bytes (preCheck r.ts { s with rtpIn := rest }) = .next u ∧ t = markerStep r.marker r.ts u := by
  obtain ⟨hl, h⟩ := whileLive_next h
  refine ⟨hl, ?_⟩
  split at h
  · cases h
  · rename_i r rest hr
    obtain ⟨u, hu, ht⟩ := thenNext_next h
    exact ⟨r, rest, u, hr, hu, ht⟩

/-! The STAP-A walk, one member at a time. -/

@[simp] theorem stapWalk_nil (fuel : Nat) : stapWalk fuel [] = ([], false) := by cases fuel <;> rfl

@[simp] theorem stapWalk_one (fuel : Nat) (x : Byte) : stapWalk fuel [x] = ([], true) := by cases fuel <;> rfl

theorem stapWalk_member (fuel : Nat) (hi lo : Byte) (m rest : Bytes) (hm : readBe16 hi lo = m.length) :
    stapWalk (fuel + 1) (hi :: lo :: (m ++ rest)) = (m :: (stapWalk fuel rest).1, (stapWalk fuel rest).2) := by
  simp [stapWalk, hm]

theorem stapWalk_overrun (fuel : Nat) (hi lo : Byte) (rest : Bytes) (h : rest.length < readBe16 hi lo) :
    stapWalk (fuel + 1) (hi :: lo :: rest) = ([], true) := by
  simp [stapWalk, h]

/-- What the walk answers: the bytes are its members, each behind its size, and then nothing, or a tail that it calls malformed
(R116, R117). -/
theorem stapWalk_spec : ∀ (fuel : Nat) (b : Bytes), b.length ≤ fuel →
    (∀ m ∈ (stapWalk fuel b).1, m.length < 65536) ∧
    ∃ bad, b = (stapWalk fuel b).1.flatMap
        (fun m => BitVec.ofNat 8 (m.length / 256) :: BitVec.ofNat 8 (m.length % 256) :: m) ++ bad
      ∧ (((stapWalk fuel b).2 = false ∧ bad = [])
        ∨ ((stapWalk fuel b).2 = true ∧ (bad.length = 1 ∨ ∃ (hi lo : Byte) (left : Bytes),
            bad = hi :: lo :: left ∧ left.length < hi.toNat * 256 + lo.toNat)))
  | fuel, [], _ => by simp
  | fuel, [x], _ => by simp
  | 0, _ :: _ :: _, h => by simp at h
  | fuel + 1, hi :: lo :: rest, h => by
    by_cases hov : rest.length < readBe16 hi lo
    · rw [stapWalk_overrun fuel hi lo rest hov]
      exact ⟨by simp, hi :: lo :: rest, rfl, .inr ⟨rfl, .inr ⟨hi, lo, rest, rfl, hov⟩⟩⟩
    · have hlen : (rest.take (readBe16 hi lo)).length = readBe16 hi lo := by simp; omega
      have hw := stapWalk_member fuel hi lo (rest.take (readBe16 hi lo)) (rest.drop (readBe16 hi lo)) hlen.symm
      rw [List.take_append_drop] at hw
      have hd : (rest.drop (readBe16 hi lo)).length ≤ fuel := by simp at h ⊢; omega
      obtain ⟨hs, bad, hb, hc⟩ := stapWalk_spec fuel (rest.drop (readBe16 hi lo)) hd
      rw [hw]
      refine ⟨?_, bad, ?_, hc⟩
      · intro m hm
        rcases List.mem_cons.mp hm with rfl | hm
        · rw [hlen]; exact readBe16_lt hi lo
        · exact hs m hm
      · obtain ⟨h1, h2⟩ := be16_bytes_of_readBe16 hi lo
        rw [List.flatMap_cons, hlen, h1, h2, List.append_assoc, ← hb]
        simp
end Sys2Proof.Machine
end

