-- ==== Sys2Proof/Laws/Pack.lean ====
section
/-! SUPPORT. What the packetizer's operations do: one lemma for each, and the loop's equations. -/

namespace Sys2Proof.Machine

/-- If a pack in mode 0 or 1 answers next, no unit was empty, the payloads exist and fit, and only the three queues changed. -/
theorem packCommit_next {out : Option (List RtpRecord)} {evs : List EventCode} {s t : State}
    (h : packCommit out evs s = .next t) :
    s.naluIn.any List.isEmpty = false ∧ ∃ rs, out = some rs ∧ packAdmits s.caps s.naluIn rs = true
      ∧ t = pushEvents evs (emitRecords rs (drainNaluIn s)) := by
  unfold packCommit at h
  split at h
  · cases h
  · rename_i hne
    refine ⟨Bool.eq_false_iff.mpr hne, ?_⟩
    split at h
    · cases h
    · rename_i rs
      split at h
      · exact ⟨rs, rfl, ‹_›, by simpa using h.symm⟩
      · cases h

/-- `pack` answers next in exactly one of its three ways (R81). -/
theorem execPack_next {ts : Timestamp} {s t : State} (h : execPack ts s = .next t) :
    s.live = true ∧
      ((s.mode = 0 ∧ runPackMode0 ts s = .next t)
        ∨ (s.mode = 1 ∧ runPackMode1 ts s = .next t)
        ∨ (s.mode ≠ 0 ∧ s.mode ≠ 1 ∧ t = pushEvent codeBadMode s)) := by
  obtain ⟨hl, h⟩ := whileLive_next h
  refine ⟨hl, ?_⟩
  split at h
  · exact .inl ⟨‹_›, h⟩
  · split at h
    · exact .inr (.inl ⟨‹_›, h⟩)
    · exact .inr (.inr ⟨‹_›, ‹_›, by simpa [runPackBadMode] using h.symm⟩)

/-- EMIT_DIRECT is refused, fragments, or sends the unit whole (R97, R104). -/
theorem emitDirect_some {M : Nat} {ts : Timestamp} {n : Bytes} {last : Bool} {rs : List RtpRecord}
    (h : emitDirect M ts n last = some rs) :
    (M < n.length ∧ 3 ≤ M ∧ rs = fragment M ts n last) ∨ (n.length ≤ M ∧ rs = [⟨n, ts, last⟩]) := by
  unfold emitDirect at h
  split at h
  · split at h
    · cases h
    · exact .inl ⟨‹_›, by omega, by simpa using h.symm⟩
  · exact .inr ⟨by omega, by simpa using h.symm⟩

/-- The caller's end-of-frame flag reaches the marker alone (R102). -/
theorem fragment_unmarked (M : Nat) (ts : Timestamp) (n : Bytes) (last : Bool) :
    fragment M ts n false = (fragment M ts n last).map (fun r => { r with marker := false }) := by
  simp [fragment, fragmentAt, Function.comp_def]

/-- A unit sent directly with others behind it leaves as it does alone, unmarked (R97). -/
theorem emitDirect_unmarked (M : Nat) (ts : Timestamp) (n : Bytes) (last : Bool) :
    emitDirect M ts n false = (emitDirect M ts n last).map (List.map fun r => { r with marker := false }) := by
  unfold emitDirect
  split <;> [split; skip] <;> simp [fragment_unmarked M ts n last]

@[simp] theorem mode1Loop_nil_none (M : Nat) (allow : Bool) (ts : Timestamp) : mode1Loop M allow ts none [] = some [] := rfl

/-- The final flush is marked (R101). -/
@[simp] theorem mode1Loop_nil_some (M : Nat) (allow : Bool) (ts : Timestamp) (c : Candidate) :
    mode1Loop M allow ts (some c) [] = some [⟨c.bytes, ts, true⟩] := rfl

/-- Step 1, first bullet: a unit that passes the merge test emits nothing (R92). -/
theorem mode1Loop_merge {M : Nat} {ts : Timestamp} {c : Candidate} {n : Bytes} {rest : List Bytes}
    (h : c.psz + n.length + 2 < M) :
    mode1Loop M true ts (some c) (n :: rest) = mode1Loop M true ts (some (merge c n)) rest := by
  simp [mode1Loop, mergeTest, h]

/-- Step 1, second bullet: a candidate that cannot take the unit is flushed unmarked, and the unit goes on with no candidate (R95). -/
theorem mode1Loop_flush {M : Nat} {ts : Timestamp} {c : Candidate} {n : Bytes} {rest : List Bytes}
    (h : ¬ c.psz + n.length + 2 < M) :
    mode1Loop M true ts (some c) (n :: rest)
      = (mode1Loop M true ts none (n :: rest)).map (fun out => ⟨c.bytes, ts, false⟩ :: out) := by
  by_cases hs : n.length < M / 2
  · simp [mode1Loop, mergeTest, h, hs, candidateRecord]
  · cases hd : emitDirect M ts n (lastMarker rest) <;>
      cases hr : mode1Loop M true ts none rest <;>
        simp [mode1Loop, mergeTest, h, hs, hd, hr, candidateRecord]

/-- Step 2, first bullet: a small unit becomes the candidate (R96). -/
theorem mode1Loop_candidate {M : Nat} {ts : Timestamp} {n : Bytes} {rest : List Bytes} (h : n.length < M / 2) :
    mode1Loop M true ts none (n :: rest) = mode1Loop M true ts (some (newCandidate n)) rest := by
  simp [mode1Loop, h]

/-- Step 2, second bullet: any other unit is emitted at once (R97). -/
theorem mode1Loop_direct {M : Nat} {ts : Timestamp} {n : Bytes} {rest : List Bytes} (h : ¬ n.length < M / 2) :
    mode1Loop M true ts none (n :: rest)
      = (emitDirect M ts n (lastMarker rest)).bind fun d => (mode1Loop M true ts none rest).map (fun out => d ++ out) := by
  simp [mode1Loop, h]

/-- Step 3: with aggregation disabled every unit is emitted at once (R100). -/
theorem mode1Loop_off {M : Nat} {ts : Timestamp} {n : Bytes} {rest : List Bytes} :
    mode1Loop M false ts none (n :: rest)
      = (emitDirect M ts n (lastMarker rest)).bind fun d => (mode1Loop M false ts none rest).map (fun out => d ++ out) := by
  simp [mode1Loop]

/-- A merge leaves a STAP-A candidate, whatever it was before (R93, R94). -/
@[simp] theorem merge_agg (c : Candidate) (n : Bytes) : (merge c n).agg = true := by
  cases h : c.agg <;> simp [merge, toStapA, h]

@[simp] theorem merge_psz (c : Candidate) (n : Bytes) : (merge c n).psz = c.psz + n.length + 2 := by
  cases h : c.agg <;> simp [merge, toStapA, h]

/-- Once in STAP-A form a candidate's psz is its length (R90, R93). -/
theorem merge_length (c : Candidate) (n : Bytes) (h : c.psz = if c.agg then c.bytes.length else c.bytes.length + 3) :
    (merge c n).psz = (merge c n).bytes.length := by
  cases ha : c.agg <;> simp [ha] at h <;> simp [merge, toStapA, ha, h] <;> omega

end Sys2Proof.Machine
end

