-- ==== Sys2Proof/Laws/PerInstr.lean ====
section
/-! SUPPORT. One lemma per instruction: the words `encode` writes match the row's `match` and `mask` of spec/opcode_table.json. -/

namespace Sys2Proof.Laws.EncodingMatchesTable

open Sys2Proof Sys2Proof.Machine

/-- A row's `match` and `mask`, transcribed from spec/opcode_table.json. -/
def tableRow : Instr → Nat × Nat
  | .init _ => (0x000000000, 0x700000000)
  | .setMode _ => (0x100000000, 0x700000000)
  | .enableStapA _ => (0x200000000, 0x700000000)
  | .setMaxPayloadSize _ => (0x300000000, 0x700000000)
  | .pack _ => (0x400000000, 0x700000000)
  | .unpack _ => (0x500000000, 0x700000000)
  | .uninit _ => (0x600000000, 0x700000000)
  | .reservedOp7 _ => (0x700000000, 0x700000000)
  | .packMode0 _ => (0x400000000, 0x700000000)
  | .packMode1 _ => (0x400000000, 0x700000000)
  | .packBadMode _ => (0x400000000, 0x700000000)
  | .payloadSingleNalT0 _ _ _ => (0x00, 0x1F)
  | .payloadSingleNalT1 _ _ _ => (0x01, 0x1F)
  | .payloadSingleNalT2 _ _ _ => (0x02, 0x1F)
  | .payloadSingleNalT3 _ _ _ => (0x03, 0x1F)
  | .payloadSingleNalT4 _ _ _ => (0x04, 0x1F)
  | .payloadSingleNalT5 _ _ _ => (0x05, 0x1F)
  | .payloadSingleNalT6 _ _ _ => (0x06, 0x1F)
  | .payloadSingleNalT7 _ _ _ => (0x07, 0x1F)
  | .payloadSingleNalT8 _ _ _ => (0x08, 0x1F)
  | .payloadSingleNalT9 _ _ _ => (0x09, 0x1F)
  | .payloadSingleNalT10 _ _ _ => (0x0A, 0x1F)
  | .payloadSingleNalT11 _ _ _ => (0x0B, 0x1F)
  | .payloadSingleNalT12 _ _ _ => (0x0C, 0x1F)
  | .payloadSingleNalT13 _ _ _ => (0x0D, 0x1F)
  | .payloadSingleNalT14 _ _ _ => (0x0E, 0x1F)
  | .payloadSingleNalT15 _ _ _ => (0x0F, 0x1F)
  | .payloadSingleNalT16 _ _ _ => (0x10, 0x1F)
  | .payloadSingleNalT17 _ _ _ => (0x11, 0x1F)
  | .payloadSingleNalT18 _ _ _ => (0x12, 0x1F)
  | .payloadSingleNalT19 _ _ _ => (0x13, 0x1F)
  | .payloadSingleNalT20 _ _ _ => (0x14, 0x1F)
  | .payloadSingleNalT21 _ _ _ => (0x15, 0x1F)
  | .payloadSingleNalT22 _ _ _ => (0x16, 0x1F)
  | .payloadSingleNalT23 _ _ _ => (0x17, 0x1F)
  | .payloadStapA _ _ _ => (0x18, 0x1F)
  | .payloadSingleNalT25 _ _ _ => (0x19, 0x1F)
  | .payloadSingleNalT26 _ _ _ => (0x1A, 0x1F)
  | .payloadSingleNalT27 _ _ _ => (0x1B, 0x1F)
  | .payloadFuA _ _ _ => (0x1C, 0x1F)
  | .payloadSingleNalT29 _ _ _ => (0x1D, 0x1F)
  | .payloadSingleNalT30 _ _ _ => (0x1E, 0x1F)
  | .payloadSingleNalT31 _ _ _ => (0x1F, 0x1F)
  | .fuAStart _ _ _ _ _ => (0x1C80, 0x1FC0)
  | .fuAMiddle _ _ _ _ _ => (0x1C00, 0x1FC0)
  | .fuAEnd _ _ _ _ _ => (0x1C40, 0x1FC0)
  | .fuAStartEnd _ _ _ _ _ => (0x1CC0, 0x1FC0)
  | .formatNalHeader _ _ _ => (0x00, 0x00)
  | .formatStapAHeader _ _ => (0x18, 0x1F)
  | .formatStapASize _ => (0x0000, 0x0000)
  | .formatFuIndicator _ _ => (0x1C, 0x1F)
  | .formatFuHeader _ _ _ _ => (0x00, 0x00)
  | .evBadMode => (0x1, 0xF)
  | .evOversize => (0x2, 0xF)
  | .evStapAMalformed => (0x3, 0xF)
  | .evFuANestedStart => (0x4, 0xF)
  | .evFuANoStart => (0x5, 0xF)
  | .evFuADiscontinued => (0x6, 0xF)

/-- The number the table matches: the command word, byte 0 of a payload, the first two bytes of a fragment, a layout's byte or
two bytes, an event code. -/
def tableNumber : Encoded → Nat
  | .command w => w.toNat
  | .commandInMode w _ => w.toNat
  | .payload b => (firstByte b).toNat
  | .fuA b => readBe16 (firstByte b) (firstByte (b.drop 1))
  | .nalHeader b => b.toNat
  | .stapAHeader b => b.toNat
  | .stapASize b => readBe16 (firstByte b) (firstByte (b.drop 1))
  | .fuIndicator b => b.toNat
  | .fuHeader b => b.toNat
  | .event c => c.toNat

/-- The words of a well-formed instruction match its row. -/
def Statement (i : Instr) : Prop :=
  i.WellFormed = true → tableNumber (encode i) &&& (tableRow i).2 = (tableRow i).1

theorem command_matches (op : BitVec 3) (arg : BitVec 32) :
    (commandWord op arg).toNat &&& 0x700000000 = op.toNat * 0x100000000 := by
  rw [show (commandWord op arg).toNat = op.toNat <<< 32 ||| arg.toNat from BitVec.toNat_append ..,
    show (0x700000000 : Nat) = 7 <<< 32 from rfl, show op.toNat * 0x100000000 = op.toNat <<< 32 by rw [Nat.shiftLeft_eq]]
  apply Nat.eq_of_testBit_eq
  intro k
  simp only [Nat.testBit_and, Nat.testBit_or, Nat.testBit_shiftLeft]
  by_cases hk : 32 ≤ k
  · have ha : arg.toNat.testBit k = false :=
      Nat.testBit_lt_two_pow (lt_of_lt_of_le arg.isLt (Nat.pow_le_pow_right (by norm_num) hk))
    by_cases h3 : k - 32 < 3
    · have h7 : Nat.testBit 7 (k - 32) = true := by
        have : k - 32 = 0 ∨ k - 32 = 1 ∨ k - 32 = 2 := by omega
        rcases this with h | h | h <;> rw [h] <;> rfl
      simp [ha, h7, hk]
    · have ho : op.toNat.testBit (k - 32) = false :=
        Nat.testBit_lt_two_pow (lt_of_lt_of_le op.isLt (Nat.pow_le_pow_right (by norm_num) (by omega)))
      simp [ha, ho]
  · simp [hk]

theorem type_matches : ∀ (f : BitVec 1) (nri : BitVec 2) (ty : BitVec 5), (headerByte f nri ty).toNat &&& 0x1F = ty.toNat := by
  decide +kernel

theorem fragment_matches : ∀ (f : BitVec 1) (nri : BitVec 2) (s e r : BitVec 1) (ty : BitVec 5),
    readBe16 (headerByte f nri 28) (fuHeaderByte s e r ty) &&& 0x1FC0 = 0x1C00 + s.toNat * 128 + e.toNat * 64 := by
  decide +kernel

theorem init (arg : BitVec 32) : Statement (.init arg) :=
  fun _ => command_matches 0 arg

theorem setMode (arg : BitVec 32) : Statement (.setMode arg) :=
  fun _ => command_matches 1 arg

theorem enableStapA (arg : BitVec 32) : Statement (.enableStapA arg) :=
  fun _ => command_matches 2 arg

theorem setMaxPayloadSize (arg : BitVec 32) : Statement (.setMaxPayloadSize arg) :=
  fun _ => command_matches 3 arg

theorem pack (ts : Timestamp) : Statement (.pack ts) :=
  fun _ => command_matches 4 ts

theorem unpack (arg : BitVec 32) : Statement (.unpack arg) :=
  fun _ => command_matches 5 arg

theorem uninit (arg : BitVec 32) : Statement (.uninit arg) :=
  fun _ => command_matches 6 arg

theorem reservedOp7 (arg : BitVec 32) : Statement (.reservedOp7 arg) :=
  fun _ => command_matches 7 arg

theorem packMode0 (ts : Timestamp) : Statement (.packMode0 ts) :=
  fun _ => command_matches 4 ts

theorem packMode1 (ts : Timestamp) : Statement (.packMode1 ts) :=
  fun _ => command_matches 4 ts

theorem packBadMode (ts : Timestamp) : Statement (.packBadMode ts) :=
  fun _ => command_matches 4 ts

theorem payloadSingleNalT0 (f : BitVec 1) (nri : BitVec 2) (rest : Bytes) : Statement (.payloadSingleNalT0 f nri rest) :=
  fun _ => type_matches f nri 0

theorem payloadSingleNalT1 (f : BitVec 1) (nri : BitVec 2) (rest : Bytes) : Statement (.payloadSingleNalT1 f nri rest) :=
  fun _ => type_matches f nri 1

theorem payloadSingleNalT2 (f : BitVec 1) (nri : BitVec 2) (rest : Bytes) : Statement (.payloadSingleNalT2 f nri rest) :=
  fun _ => type_matches f nri 2

theorem payloadSingleNalT3 (f : BitVec 1) (nri : BitVec 2) (rest : Bytes) : Statement (.payloadSingleNalT3 f nri rest) :=
  fun _ => type_matches f nri 3

theorem payloadSingleNalT4 (f : BitVec 1) (nri : BitVec 2) (rest : Bytes) : Statement (.payloadSingleNalT4 f nri rest) :=
  fun _ => type_matches f nri 4

theorem payloadSingleNalT5 (f : BitVec 1) (nri : BitVec 2) (rest : Bytes) : Statement (.payloadSingleNalT5 f nri rest) :=
  fun _ => type_matches f nri 5

theorem payloadSingleNalT6 (f : BitVec 1) (nri : BitVec 2) (rest : Bytes) : Statement (.payloadSingleNalT6 f nri rest) :=
  fun _ => type_matches f nri 6

theorem payloadSingleNalT7 (f : BitVec 1) (nri : BitVec 2) (rest : Bytes) : Statement (.payloadSingleNalT7 f nri rest) :=
  fun _ => type_matches f nri 7

theorem payloadSingleNalT8 (f : BitVec 1) (nri : BitVec 2) (rest : Bytes) : Statement (.payloadSingleNalT8 f nri rest) :=
  fun _ => type_matches f nri 8

theorem payloadSingleNalT9 (f : BitVec 1) (nri : BitVec 2) (rest : Bytes) : Statement (.payloadSingleNalT9 f nri rest) :=
  fun _ => type_matches f nri 9

theorem payloadSingleNalT10 (f : BitVec 1) (nri : BitVec 2) (rest : Bytes) : Statement (.payloadSingleNalT10 f nri rest) :=
  fun _ => type_matches f nri 10

theorem payloadSingleNalT11 (f : BitVec 1) (nri : BitVec 2) (rest : Bytes) : Statement (.payloadSingleNalT11 f nri rest) :=
  fun _ => type_matches f nri 11

theorem payloadSingleNalT12 (f : BitVec 1) (nri : BitVec 2) (rest : Bytes) : Statement (.payloadSingleNalT12 f nri rest) :=
  fun _ => type_matches f nri 12

theorem payloadSingleNalT13 (f : BitVec 1) (nri : BitVec 2) (rest : Bytes) : Statement (.payloadSingleNalT13 f nri rest) :=
  fun _ => type_matches f nri 13

theorem payloadSingleNalT14 (f : BitVec 1) (nri : BitVec 2) (rest : Bytes) : Statement (.payloadSingleNalT14 f nri rest) :=
  fun _ => type_matches f nri 14

theorem payloadSingleNalT15 (f : BitVec 1) (nri : BitVec 2) (rest : Bytes) : Statement (.payloadSingleNalT15 f nri rest) :=
  fun _ => type_matches f nri 15

theorem payloadSingleNalT16 (f : BitVec 1) (nri : BitVec 2) (rest : Bytes) : Statement (.payloadSingleNalT16 f nri rest) :=
  fun _ => type_matches f nri 16

theorem payloadSingleNalT17 (f : BitVec 1) (nri : BitVec 2) (rest : Bytes) : Statement (.payloadSingleNalT17 f nri rest) :=
  fun _ => type_matches f nri 17

theorem payloadSingleNalT18 (f : BitVec 1) (nri : BitVec 2) (rest : Bytes) : Statement (.payloadSingleNalT18 f nri rest) :=
  fun _ => type_matches f nri 18

theorem payloadSingleNalT19 (f : BitVec 1) (nri : BitVec 2) (rest : Bytes) : Statement (.payloadSingleNalT19 f nri rest) :=
  fun _ => type_matches f nri 19

theorem payloadSingleNalT20 (f : BitVec 1) (nri : BitVec 2) (rest : Bytes) : Statement (.payloadSingleNalT20 f nri rest) :=
  fun _ => type_matches f nri 20

theorem payloadSingleNalT21 (f : BitVec 1) (nri : BitVec 2) (rest : Bytes) : Statement (.payloadSingleNalT21 f nri rest) :=
  fun _ => type_matches f nri 21

theorem payloadSingleNalT22 (f : BitVec 1) (nri : BitVec 2) (rest : Bytes) : Statement (.payloadSingleNalT22 f nri rest) :=
  fun _ => type_matches f nri 22

theorem payloadSingleNalT23 (f : BitVec 1) (nri : BitVec 2) (rest : Bytes) : Statement (.payloadSingleNalT23 f nri rest) :=
  fun _ => type_matches f nri 23

theorem payloadStapA (f : BitVec 1) (nri : BitVec 2) (rest : Bytes) : Statement (.payloadStapA f nri rest) :=
  fun _ => type_matches f nri 24

theorem payloadSingleNalT25 (f : BitVec 1) (nri : BitVec 2) (rest : Bytes) : Statement (.payloadSingleNalT25 f nri rest) :=
  fun _ => type_matches f nri 25

theorem payloadSingleNalT26 (f : BitVec 1) (nri : BitVec 2) (rest : Bytes) : Statement (.payloadSingleNalT26 f nri rest) :=
  fun _ => type_matches f nri 26

theorem payloadSingleNalT27 (f : BitVec 1) (nri : BitVec 2) (rest : Bytes) : Statement (.payloadSingleNalT27 f nri rest) :=
  fun _ => type_matches f nri 27

theorem payloadFuA (f : BitVec 1) (nri : BitVec 2) (rest : Bytes) : Statement (.payloadFuA f nri rest) :=
  fun _ => type_matches f nri 28

theorem payloadSingleNalT29 (f : BitVec 1) (nri : BitVec 2) (rest : Bytes) : Statement (.payloadSingleNalT29 f nri rest) :=
  fun _ => type_matches f nri 29

theorem payloadSingleNalT30 (f : BitVec 1) (nri : BitVec 2) (rest : Bytes) : Statement (.payloadSingleNalT30 f nri rest) :=
  fun _ => type_matches f nri 30

theorem payloadSingleNalT31 (f : BitVec 1) (nri : BitVec 2) (rest : Bytes) : Statement (.payloadSingleNalT31 f nri rest) :=
  fun _ => type_matches f nri 31

theorem fuAStart (f : BitVec 1) (nri : BitVec 2) (r : BitVec 1) (ftype : BitVec 5) (data : Bytes) : Statement (.fuAStart f nri r ftype data) :=
  fun _ => fragment_matches f nri 1 0 r ftype

theorem fuAMiddle (f : BitVec 1) (nri : BitVec 2) (r : BitVec 1) (ftype : BitVec 5) (data : Bytes) : Statement (.fuAMiddle f nri r ftype data) :=
  fun _ => fragment_matches f nri 0 0 r ftype

theorem fuAEnd (f : BitVec 1) (nri : BitVec 2) (r : BitVec 1) (ftype : BitVec 5) (data : Bytes) : Statement (.fuAEnd f nri r ftype data) :=
  fun _ => fragment_matches f nri 0 1 r ftype

theorem fuAStartEnd (f : BitVec 1) (nri : BitVec 2) (r : BitVec 1) (ftype : BitVec 5) (data : Bytes) : Statement (.fuAStartEnd f nri r ftype data) :=
  fun _ => fragment_matches f nri 1 1 r ftype

theorem formatNalHeader (f : BitVec 1) (nri : BitVec 2) (ty : BitVec 5) : Statement (.formatNalHeader f nri ty) :=
  fun _ => Nat.and_zero _

theorem formatStapAHeader (f : BitVec 1) (nri : BitVec 2) : Statement (.formatStapAHeader f nri) :=
  fun _ => type_matches f nri 24

theorem formatStapASize (size : BitVec 16) : Statement (.formatStapASize size) :=
  fun _ => Nat.and_zero _

theorem formatFuIndicator (f : BitVec 1) (nri : BitVec 2) : Statement (.formatFuIndicator f nri) :=
  fun _ => type_matches f nri 28

theorem formatFuHeader (b7 : BitVec 1) (b6 : BitVec 1) (b5 : BitVec 1) (ftype : BitVec 5) : Statement (.formatFuHeader b7 b6 b5 ftype) :=
  fun _ => Nat.and_zero _

theorem evBadMode : Statement (.evBadMode) :=
  fun _ => rfl

theorem evOversize : Statement (.evOversize) :=
  fun _ => rfl

theorem evStapAMalformed : Statement (.evStapAMalformed) :=
  fun _ => rfl

theorem evFuANestedStart : Statement (.evFuANestedStart) :=
  fun _ => rfl

theorem evFuANoStart : Statement (.evFuANoStart) :=
  fun _ => rfl

theorem evFuADiscontinued : Statement (.evFuADiscontinued) :=
  fun _ => rfl

end Sys2Proof.Laws.EncodingMatchesTable
end

