-- ==== Sys2Proof/Tests/Slice0.lean ====
section
/-! SUPPORT. The model's own tests. Expected values are those of spec/95_test_vectors.md (the vector is named) or are written out from
the encodings of spec/30_encoding.md; the `witness_` theorems show that the hypotheses of each statement can be met. -/

namespace Sys2Proof.Tests

open Sys2Proof Sys2Proof.Machine

/-- The next state, if there is one. -/
def stateOf : Result → Option State
  | .next s => some s
  | _ => none

/-- The refusal, if it is one. -/
def refusalOf : Result → Option Refusal
  | .refused r => some r
  | _ => none

/-- A transmitting instance after `init`, `set_mode mode`, `set_max_payload_size size`. -/
def tx (mode : BitVec 32) (size : BitVec 16) (units : List Bytes) : State :=
  { State.reset with live := true, mode := mode, maxPayloadSize := size, stapAAllowed := true, naluIn := units }

/-- A receiving instance with one payload waiting. -/
def rx (reasm : Option Bytes) (pending : List Bytes) (b : Bytes) (ts : Timestamp) (m : Bool) : State :=
  { State.reset with live := true, reasm := reasm, pending := pending, rtpIn := [⟨b, ts, m⟩] }

/-- What section 5 of the vectors tabulates. -/
structure Received where
  naluOut       : List Bytes
  evtOut        : List EventCode
  reasm         : Option Bytes
  pending       : List Bytes
  lastTimestamp : Timestamp
deriving DecidableEq, Repr

/-- What an `unpack` leaves, as section 5 of the vectors shows it. -/
def received (r : Result) : Option Received :=
  (stateOf r).map fun s => ⟨s.naluOut, s.evtOut, s.reasm, s.pending, s.lastTimestamp⟩

/-- What section 3 and 4 of the vectors tabulate. -/
def sent (r : Result) : Option (List RtpRecord × List EventCode × List Bytes) :=
  (stateOf r).map fun s => (s.rtpOut, s.evtOut, s.naluIn)

/-- The NAL units of section 3: size `k`, numbered `i`. -/
def unit (i k : Nat) : Bytes := 0x41 :: (List.range (k - 1)).map (fun j => BitVec.ofNat 8 (i * 16 + j + 1))

/-- An instance with little storage. -/
def small : Capacities := { nalMaxLen := some 4, pendingEntries := some 1, pendingBytes := some 3, reasmBytes := some 3 }

/-! ### Well-formedness: each check refuses an ill-formed term -/

theorem test_wf_fuA : (Instr.payloadFuA 0 3 []).WellFormed = false := by decide
theorem test_wf_stapAHeader : (Instr.formatStapAHeader 1 3).WellFormed = false := by decide
theorem test_wf_fuIndicator : (Instr.formatFuIndicator 1 3).WellFormed = false := by decide
theorem test_wf_fuHeader : (Instr.formatFuHeader 1 0 1 5).WellFormed = false := by decide

/-! ### Decoding: words written out from the encodings -/

/-- 95_test_vectors.md section 2.6. -/
theorem test_decode_commands :
    [0x000000000, 0x100000002, 0x200000001, 0x3000004B0, 0x400015F90, 0x500000000, 0x600000000, 0x7FFFFFFFF].map decodeCommand
      = [.init 0, .setMode 2, .enableStapA 1, .setMaxPayloadSize 1200, .pack 90000, .unpack 0, .uninit 0,
         .reservedOp7 0xFFFFFFFF] := by decide +kernel

theorem test_decode_pack_rows :
    [0, 1, 2, 256].map (decodePackRow 0x400000BB8)
      = [.ok (.packMode0 3000), .ok (.packMode1 3000), .ok (.packBadMode 3000), .ok (.packBadMode 3000)] := by decide +kernel

/-- Bit 7 is F, bits 6:5 NRI, bits 4:0 TYPE (R50, R53). -/
theorem test_decode_payload_T0_T7 :
    ([[0x00, 0x00], [0x81, 0x01], [0x22, 0x02], [0xA3, 0x03], [0x44, 0x04], [0xC5, 0x05], [0x66, 0x06], [0xE7, 0x07]] : List Bytes).map decodePayload
      = [.ok (.payloadSingleNalT0 0 0 [0x00]), .ok (.payloadSingleNalT1 1 0 [0x01]), .ok (.payloadSingleNalT2 0 1 [0x02]), .ok (.payloadSingleNalT3 1 1 [0x03]), .ok (.payloadSingleNalT4 0 2 [0x04]), .ok (.payloadSingleNalT5 1 2 [0x05]), .ok (.payloadSingleNalT6 0 3 [0x06]), .ok (.payloadSingleNalT7 1 3 [0x07])] := by decide +kernel

/-- Bit 7 is F, bits 6:5 NRI, bits 4:0 TYPE (R50, R53). -/
theorem test_decode_payload_T8_T15 :
    ([[0x08, 0x08], [0x89, 0x09], [0x2A, 0x0A], [0xAB, 0x0B], [0x4C, 0x0C], [0xCD, 0x0D], [0x6E, 0x0E], [0xEF, 0x0F]] : List Bytes).map decodePayload
      = [.ok (.payloadSingleNalT8 0 0 [0x08]), .ok (.payloadSingleNalT9 1 0 [0x09]), .ok (.payloadSingleNalT10 0 1 [0x0A]), .ok (.payloadSingleNalT11 1 1 [0x0B]), .ok (.payloadSingleNalT12 0 2 [0x0C]), .ok (.payloadSingleNalT13 1 2 [0x0D]), .ok (.payloadSingleNalT14 0 3 [0x0E]), .ok (.payloadSingleNalT15 1 3 [0x0F])] := by decide +kernel

/-- Bit 7 is F, bits 6:5 NRI, bits 4:0 TYPE (R50, R53). -/
theorem test_decode_payload_T16_T23 :
    ([[0x10, 0x10], [0x91, 0x11], [0x32, 0x12], [0xB3, 0x13], [0x54, 0x14], [0xD5, 0x15], [0x76, 0x16], [0xF7, 0x17]] : List Bytes).map decodePayload
      = [.ok (.payloadSingleNalT16 0 0 [0x10]), .ok (.payloadSingleNalT17 1 0 [0x11]), .ok (.payloadSingleNalT18 0 1 [0x12]), .ok (.payloadSingleNalT19 1 1 [0x13]), .ok (.payloadSingleNalT20 0 2 [0x14]), .ok (.payloadSingleNalT21 1 2 [0x15]), .ok (.payloadSingleNalT22 0 3 [0x16]), .ok (.payloadSingleNalT23 1 3 [0x17])] := by decide +kernel

/-- Bit 7 is F, bits 6:5 NRI, bits 4:0 TYPE (R50, R53). -/
theorem test_decode_payload_T24_T31 :
    ([[0x18, 0x18], [0x99, 0x19], [0x3A, 0x1A], [0xBB, 0x1B], [0x5C, 0x1C], [0xDD, 0x1D], [0x7E, 0x1E], [0xFF, 0x1F]] : List Bytes).map decodePayload
      = [.ok (.payloadStapA 0 0 [0x18]), .ok (.payloadSingleNalT25 1 0 [0x19]), .ok (.payloadSingleNalT26 0 1 [0x1A]), .ok (.payloadSingleNalT27 1 1 [0x1B]), .ok (.payloadFuA 0 2 [0x1C]), .ok (.payloadSingleNalT29 1 2 [0x1D]), .ok (.payloadSingleNalT30 0 3 [0x1E]), .ok (.payloadSingleNalT31 1 3 [0x1F])] := by decide +kernel

/-- 95_test_vectors.md section 2.2; 0xA5 has bit 5 set. -/
theorem test_decode_fragments :
    ([[0x7C, 0x85, 0xAA], [0x7C, 0x05], [0x9C, 0x61, 0xBB], [0x5C, 0xC1, 0x11], [0xFC, 0xA5]] : List Bytes).map decodeFuA
      = [.ok (.fuAStart 0 3 0 5 [0xAA]), .ok (.fuAMiddle 0 3 0 5 []), .ok (.fuAEnd 1 0 1 1 [0xBB]),
         .ok (.fuAStartEnd 0 2 0 1 [0x11]), .ok (.fuAStart 1 3 1 5 [])] := by decide +kernel

theorem test_decode_layouts :
    [Encoded.nalHeader 0xE5, .stapAHeader 0x78, .stapASize [0x04, 0xAF], .fuIndicator 0x5C, .fuHeader 0x45].map decode
      = [.ok (.formatNalHeader 1 3 5), .ok (.formatStapAHeader 0 3), .ok (.formatStapASize 1199), .ok (.formatFuIndicator 0 2),
         .ok (.formatFuHeader 0 1 0 5)] := by decide +kernel

theorem test_decode_events :
    [1, 2, 3, 4, 5, 6].map decodeEvent
      = [.ok .evBadMode, .ok .evOversize, .ok .evStapAMalformed, .ok .evFuANestedStart, .ok .evFuANoStart,
         .ok .evFuADiscontinued] := by decide +kernel

/-- What the decoder refuses, by name. -/
theorem test_decode_refuses :
    [decodePayload [], decodePayload [0x7C], decodeFuA [0x41, 0x85], decodePackRow 0x500000000 0, decodeStapAHeader 0xF8,
      decodeFuIndicator 0x78, decodeFuHeader 0xA5, decodeStapASize [1], decodeEvent 7]
      = [.error .emptyPayload, .error .fuAWithoutHeader, .error .notFuA, .error .notPack, .error .forbiddenBitSet,
         .error .wrongType, .error .bit5Set, .error .notTwoBytes, .error .noSuchEvent] := by decide +kernel

/-! ### Lifecycle (95_test_vectors.md section 6) -/

theorem test_init_6_4 : (stateOf (exec (.init 7) State.reset)).map (fun s => (s.live, s.mode, s.stapAAllowed))
    = some (true, 0, true) := by decide +kernel
theorem test_init_discards_6_18 : (stateOf (exec (.init 0) (rx (some [0x65]) [[0x67, 0x42]] [] 5 false))).map
    (fun s => (s.pending, s.reasm, s.naluOut)) = some ([], none, []) := by decide +kernel
theorem test_setMode_6_9 : (stateOf (exec (.setMode 4294967295) (tx 0 9 []))).map (fun s => (s.mode, s.evtOut))
    = some (4294967295, []) := by decide +kernel
theorem test_setMode_6_2 : refusalOf (exec (.setMode 1) State.reset) = some .noContext := by decide +kernel
theorem test_enableStapA_6_10 : (stateOf (exec (.enableStapA 2) (tx 0 9 []))).map (·.stapAAllowed) = some true := by decide +kernel
theorem test_enableStapA_6_11 : (stateOf (exec (.enableStapA 0) (tx 0 9 []))).map (·.stapAAllowed) = some false := by decide +kernel
theorem test_setMaxPayloadSize_6_7 : (stateOf (exec (.setMaxPayloadSize 65535) (tx 0 9 []))).map (·.maxPayloadSize)
    = some 65535 := by decide +kernel
theorem test_setMaxPayloadSize_6_6 : refusalOf (exec (.setMaxPayloadSize 65536) (tx 0 9 [])) = some .sizeOutOfRange := by
  decide +kernel
theorem test_uninit_6_15 : received (exec (.uninit 0) (rx (some [0x65, 0xAA]) [[0x67, 0x42]] [] 5 false))
    = some ⟨[], [], none, [], 0⟩ := by decide +kernel
theorem test_uninit_6_3 : refusalOf (exec (.uninit 0) State.reset) = some .noContext := by decide +kernel
theorem test_reservedOp7_6_19 : refusalOf (step { State.reset with cmdIn := [0x700000000] }) = some .reservedOpcode := by
  decide +kernel

/-! ### `pack` (95_test_vectors.md sections 3 and 4) -/

theorem test_pack_4_2 : sent (exec (.pack 3000) (tx 0 4 [[0x67, 0x42], [0x65, 0x88, 0x84, 0x00, 0x21]]))
    = some ([⟨[0x67, 0x42], 3000, false⟩, ⟨[0x65, 0x88, 0x84, 0x00, 0x21], 3000, true⟩], [2], []) := by decide +kernel
theorem test_packMode0_4_4 : sent (exec (.packMode0 2) (tx 0 1 [[0x41, 0x01], [0x41, 0x02], [0x09]]))
    = some ([⟨[0x41, 0x01], 2, false⟩, ⟨[0x41, 0x02], 2, false⟩, ⟨[0x09], 2, true⟩], [2, 2], []) := by decide +kernel
theorem test_packBadMode_4_6 : sent (exec (.packBadMode 6000) (tx 2 9 [[0x41, 0x9A]])) = some ([], [1], [[0x41, 0x9A]]) := by
  decide +kernel
theorem test_pack_4_9 : sent (exec (.pack 0) (tx 256 9 [[0x41]])) = some ([], [1], [[0x41]]) := by decide +kernel
theorem test_packMode1_3_8 : sent (exec (.packMode1 7) (tx 1 20 [unit 1 3, unit 2 4, unit 3 5, unit 4 2]))
    = some ([⟨[0x58, 0x00, 0x03, 0x41, 0x11, 0x12, 0x00, 0x04, 0x41, 0x21, 0x22, 0x23, 0x00, 0x05, 0x41, 0x31, 0x32, 0x33, 0x34],
        7, false⟩, ⟨[0x41, 0x41], 7, true⟩], [], []) := by decide +kernel
theorem test_pack_3_9 : sent (exec (.pack 7) (tx 1 20 [unit 1 9, unit 2 10, unit 3 3]))
    = some ([⟨unit 1 9, 7, false⟩, ⟨unit 2 10, 7, false⟩, ⟨[0x41, 0x31, 0x32], 7, true⟩], [], []) := by decide +kernel
theorem test_packMode1_3_20 : sent (exec (.packMode1 7) (tx 1 4 [[0xE5, 0x01, 0x02, 0x03, 0x04]]))
    = some ([⟨[0x7C, 0x85, 0x01, 0x02], 7, false⟩, ⟨[0x7C, 0x45, 0x03, 0x04], 7, true⟩], [], []) := by decide +kernel

/-! ### `unpack` and its rows (95_test_vectors.md section 5) -/

theorem test_unpack_5_5_1 : received (exec (.unpack 0) { rx none [[0x41, 0xAA]] [0x41, 0xBB] 4000 false with lastTimestamp := 1000 })
    = some ⟨[[0x41, 0xAA]], [], none, [[0x41, 0xBB]], 4000⟩ := by decide +kernel
theorem test_unpack_5_5_6 :
    received (exec (.unpack 0) { rx (some [0x65, 0xAA]) [[0x41, 0x01]] [0x41, 0x02] 2000 false with lastTimestamp := 1000 })
    = some ⟨[], [6], none, [[0x41, 0x01], [0x41, 0x02]], 1000⟩ := by decide +kernel
theorem test_payloadStapA_5_1_4 : received (exec (.payloadStapA 0 0 [0x00, 0x00, 0x00, 0x01, 0x09]) (rx none [] [] 0 false))
    = some ⟨[], [], none, [[], [0x09]], 0⟩ := by decide +kernel
theorem test_payloadStapA_5_3 :
    received (exec (.payloadStapA 0 0 [0x00, 0x01, 0x09, 0x00, 0x07, 0x0A]) (rx (some [0x65, 0xAA]) [] [] 0 false))
    = some ⟨[], [6, 3], none, [[0x09]], 0⟩ := by decide +kernel
theorem test_payloadFuA_5_2_2 : received (exec (.payloadFuA 1 3 [0xA5, 0xAA]) (rx none [] [] 0 false))
    = some ⟨[], [], some [0x65, 0xAA], [], 0⟩ := by decide +kernel
theorem test_fuAStart_5_2_5 : received (exec (.fuAStart 0 2 0 1 [0x11]) (rx (some [0x65, 0xAA]) [] [] 0 false))
    = some ⟨[], [4], some [0x41, 0x11], [], 0⟩ := by decide +kernel
theorem test_fuAMiddle_5_2_1 : received (exec (.fuAMiddle 0 3 0 5 [0xCC]) (rx (some [0x65, 0xAA, 0xBB]) [] [] 0 false))
    = some ⟨[], [], some [0x65, 0xAA, 0xBB, 0xCC], [], 0⟩ := by decide +kernel
theorem test_fuAEnd_5_2_1 : received (exec (.fuAEnd 0 3 0 5 [0xDD]) (rx (some [0x65, 0xAA]) [[0x09]] [] 0 false))
    = some ⟨[], [], none, [[0x09], [0x65, 0xAA, 0xDD]], 0⟩ := by decide +kernel
theorem test_fuAEnd_5_2_4 : received (exec (.fuAEnd 0 3 0 5 [0xDD]) (rx none [] [] 0 false)) = some ⟨[], [5], none, [], 0⟩ := by
  decide +kernel
theorem test_fuAStartEnd_5_2_6 : received (exec (.fuAStartEnd 0 2 0 1 [0x11, 0x12]) (rx (some [0x65, 0xAA]) [] [] 0 false))
    = some ⟨[], [4], none, [[0x41, 0x11, 0x12]], 0⟩ := by decide +kernel

/-- Every single-NAL row appends its own byte 0: F, NRI and TYPE (R127). -/
theorem test_single_rows :
    [Instr.payloadSingleNalT0, Instr.payloadSingleNalT1, Instr.payloadSingleNalT2, Instr.payloadSingleNalT3, Instr.payloadSingleNalT4, Instr.payloadSingleNalT5, Instr.payloadSingleNalT6, Instr.payloadSingleNalT7, Instr.payloadSingleNalT8, Instr.payloadSingleNalT9, Instr.payloadSingleNalT10, Instr.payloadSingleNalT11, Instr.payloadSingleNalT12, Instr.payloadSingleNalT13, Instr.payloadSingleNalT14, Instr.payloadSingleNalT15, Instr.payloadSingleNalT16, Instr.payloadSingleNalT17, Instr.payloadSingleNalT18, Instr.payloadSingleNalT19, Instr.payloadSingleNalT20, Instr.payloadSingleNalT21, Instr.payloadSingleNalT22, Instr.payloadSingleNalT23, Instr.payloadSingleNalT25, Instr.payloadSingleNalT26, Instr.payloadSingleNalT27, Instr.payloadSingleNalT29, Instr.payloadSingleNalT30, Instr.payloadSingleNalT31].map
        (fun row => (stateOf (exec (row 1 2 [0x07]) (rx none [] [] 0 false))).map (fun s => s.pending))
      = [some [[0xC0, 0x07]], some [[0xC1, 0x07]], some [[0xC2, 0x07]], some [[0xC3, 0x07]], some [[0xC4, 0x07]], some [[0xC5, 0x07]], some [[0xC6, 0x07]], some [[0xC7, 0x07]], some [[0xC8, 0x07]], some [[0xC9, 0x07]], some [[0xCA, 0x07]], some [[0xCB, 0x07]], some [[0xCC, 0x07]], some [[0xCD, 0x07]], some [[0xCE, 0x07]], some [[0xCF, 0x07]], some [[0xD0, 0x07]], some [[0xD1, 0x07]], some [[0xD2, 0x07]], some [[0xD3, 0x07]], some [[0xD4, 0x07]], some [[0xD5, 0x07]], some [[0xD6, 0x07]], some [[0xD7, 0x07]], some [[0xD9, 0x07]], some [[0xDA, 0x07]], some [[0xDB, 0x07]], some [[0xDD, 0x07]], some [[0xDE, 0x07]], some [[0xDF, 0x07]]] := by decide +kernel

theorem test_events :
    ([.evBadMode, .evOversize, .evStapAMalformed, .evFuANestedStart, .evFuANoStart, .evFuADiscontinued].map
      (fun i => (stateOf (exec i State.reset)).map (·.evtOut)))
      = [some [1], some [2], some [3], some [4], some [5], some [6]] := by decide +kernel

/-! ### The host's two questions -/

theorem test_tableWords :
    [decodeTableWord 40 0x3000004B0, decodeTableWord 8 0xE5, decodeTableWord 8 0x1C, decodeTableWord 16 0x7CC5, decodeTableWord 16 9,
      decodeTableWord 40 0x800000000]
      = [some (.setMaxPayloadSize 1200), some (.payloadSingleNalT5 1 3 []), some (.payloadFuA 0 0 [0]),
         some (.fuAStartEnd 0 3 0 5 []), some (.formatStapASize 9), none] := by decide +kernel

theorem test_withFetchWord_payload : received (step (State.reset.withFetchWord 16 0x7C85)) = some ⟨[], [], some [0x65], [], 0⟩ := by
  decide +kernel

theorem test_withFetchWord_command : (stateOf (step (State.reset.withFetchWord 40 0x000000000))).map (fun s => (s.live, s.cmdIn))
    = some (true, []) := by decide +kernel

/-! ### Witnesses: the hypotheses of each statement can be met -/

theorem witness_SetModeStoresAnyValue : (tx 0 9 []).live = true ∧ State.reset.live = false := by decide
theorem witness_EnableStapAReadsABoolean : (tx 0 9 []).live = true ∧ (0 : BitVec 32) = 0 ∧ (1 : BitVec 32) ≠ 0 := by decide
theorem witness_SetMaxPayloadSizeAcceptsExactlyItsRange :
    (tx 0 9 []).live = true ∧ 1 ≤ (1 : BitVec 32).toNat ∧ (65535 : BitVec 32).toNat ≤ 65535
      ∧ (0 : BitVec 32).toNat = 0 ∧ 65535 < (65536 : BitVec 32).toNat := by decide
theorem witness_UninitDiscardsAndEndsTheContext : (rx (some [1]) [[2]] [] 0 true).live = true ∧ State.reset.live = false := by decide
theorem witness_NoContextRefusesSixCommands : State.reset.live = false := by decide
theorem witness_StepRunsTheOldestCommand : ({ State.reset with cmdIn := [0x0, 0x5] } : State).cmdIn = 0x0 :: [0x5] := by decide
theorem witness_IdleBlockKeepsItsState : State.reset.cmdIn = [] := by decide
theorem witness_DecodeInvertsEncode : (Instr.payloadFuA 1 3 [0x85]).WellFormed = true := by decide
theorem witness_EncodeInvertsDecode :
    decodePayload [0x41] = .ok (.payloadSingleNalT1 0 2 []) ∧ decodeFuA [0x7C, 0x85] = .ok (.fuAStart 0 3 0 5 []) := by
  decide +kernel
theorem witness_PackRowsStopOutsideTheirMode :
    (tx 1 9 []).live = true ∧ (tx 1 9 []).mode ≠ 0 ∧ (tx 0 9 []).mode ≠ 1 ∧ (tx 0 9 []).mode = 0 ∧ (tx 1 9 []).mode = 1 := by
  decide
theorem witness_BadModeLogsAndKeepsItsInput :
    (tx 2 9 [[0x41]]).live = true ∧ (tx 2 9 [[0x41]]).mode ≠ 0 ∧ (tx 2 9 [[0x41]]).mode ≠ 1 := by decide
theorem witness_Mode0SendsEveryUnitUnchanged :
    let s := { tx 0 3 [[0x41], [0x41, 1, 2, 3]] with caps := small }
    s.live = true ∧ s.mode = 0 ∧ ∀ n ∈ s.naluIn, n ≠ [] ∧ s.caps.PortAccepts n.length := by decide
theorem witness_EmptyPackEmitsNothing :
    (tx 0 9 []).live = true ∧ (tx 0 9 []).naluIn = [] ∧ (tx 0 9 []).mode = 0 ∧ (tx 1 9 []).mode = 1 ∧ (tx 2 9 []).mode ≠ 0
      ∧ (tx 2 9 []).mode ≠ 1 := by decide
theorem witness_EmptyNalUnitRefusesThePack :
    (tx 1 20 [[0x41], []]).live = true ∧ (tx 1 20 [[0x41], []]).mode = 1 ∧ [] ∈ (tx 1 20 [[0x41], []]).naluIn := by decide
theorem witness_Mode1PackCompletes :
    let s := { tx 1 3 [[0x41, 1, 2, 3]] with caps := small }
    let s2 := tx 1 2 [[0x41, 1]]
    (s.live = true ∧ s.mode = 1 ∧ (∀ n ∈ s.naluIn, n ≠ [] ∧ s.caps.PortAccepts n.length ∧
        (3 ≤ s.maxPayloadSize.toNat ∨ n.length ≤ s.maxPayloadSize.toNat)) ∧ s.caps.PortAccepts s.maxPayloadSize.toNat)
      ∧ (s2.live = true ∧ s2.mode = 1 ∧ (∀ n ∈ s2.naluIn, n ≠ [] ∧ s2.caps.PortAccepts n.length ∧
        (3 ≤ s2.maxPayloadSize.toNat ∨ n.length ≤ s2.maxPayloadSize.toNat)) ∧ s2.caps.PortAccepts s2.maxPayloadSize.toNat) := by
  decide
theorem witness_Mode1PayloadsFitTheBudget :
    let s := tx 1 20 [unit 1 3, unit 2 11]
    s.mode = 1 ∧ (∃ t, exec (.pack 7) s = .next t) ∧ (∀ n ∈ s.naluIn, nalType (firstByte n) ≠ 24) :=
  ⟨rfl, ⟨_, rfl⟩, by decide⟩
theorem witness_ExactlyTheLastPayloadIsMarked :
    ((tx 0 20 [unit 1 3]).mode = 0 ∧ (tx 0 20 [unit 1 3]).naluIn ≠ [] ∧ ∃ t, exec (.pack 7) (tx 0 20 [unit 1 3]) = .next t)
      ∧ ((tx 1 20 []).mode = 1 ∧ (tx 1 20 []).naluIn = [] ∧ ∃ t, exec (.pack 7) (tx 1 20 []) = .next t) :=
  ⟨⟨rfl, by decide, ⟨_, rfl⟩⟩, ⟨rfl, rfl, ⟨_, rfl⟩⟩⟩
/-- Vector 3.5: the aggregate is M - 1 bytes. -/
theorem witness_FrameThatFitsIsOneStapA :
    let s := tx 1 20 [unit 1 3, unit 2 11]
    s.live = true ∧ s.mode = 1 ∧ s.stapAAllowed = true ∧ s.naluIn = unit 1 3 :: unit 2 11 :: [] ∧ (∀ n ∈ s.naluIn, n ≠ [])
      ∧ (unit 1 3).length < s.maxPayloadSize.toNat / 2
      ∧ 1 + (s.naluIn.map (fun n => 2 + n.length)).sum < s.maxPayloadSize.toNat
      ∧ s.caps.PortAccepts s.maxPayloadSize.toNat := by decide
/-- Vectors 3.6 and 3.8: a lone candidate at the boundary of the merge test, and a run in STAP-A form. -/
theorem witness_UnitThatDoesNotMergeFlushesTheCandidate :
    let s := tx 1 20 [unit 1 3, unit 2 12]
    let s2 := tx 1 20 [unit 1 3, unit 2 4, unit 3 5, unit 4 2]
    (s.live = true ∧ s.mode = 1 ∧ s.stapAAllowed = true ∧ s.naluIn = unit 1 3 :: [] ++ unit 2 12 :: []
      ∧ (∀ u ∈ s.naluIn, u ≠ [] ∧ s.caps.PortAccepts u.length) ∧ s.caps.PortAccepts s.maxPayloadSize.toNat
      ∧ (unit 1 3).length < s.maxPayloadSize.toNat / 2
      ∧ s.maxPayloadSize.toNat = 1 + ((unit 1 3 :: [] ++ [unit 2 12]).map (fun u => 2 + u.length)).sum)
    ∧ (s2.live = true ∧ s2.mode = 1 ∧ s2.stapAAllowed = true
      ∧ s2.naluIn = unit 1 3 :: [unit 2 4, unit 3 5] ++ unit 4 2 :: []
      ∧ (∀ u ∈ s2.naluIn, u ≠ [] ∧ s2.caps.PortAccepts u.length) ∧ s2.caps.PortAccepts s2.maxPayloadSize.toNat
      ∧ (unit 1 3).length < s2.maxPayloadSize.toNat / 2
      ∧ 1 + ((unit 1 3 :: [unit 2 4, unit 3 5]).map (fun u => 2 + u.length)).sum < s2.maxPayloadSize.toNat
      ∧ s2.maxPayloadSize.toNat ≤ 1 + ((unit 1 3 :: [unit 2 4, unit 3 5] ++ [unit 4 2]).map (fun u => 2 + u.length)).sum) := by
  decide
/-- The second and third unit of vector 3.9: exactly M div 2 bytes. -/
theorem witness_DirectUnitLeavesBeforeTheRestOfItsFrame :
    let s := tx 1 20 [unit 2 10, unit 3 3]
    s.live = true ∧ s.mode = 1 ∧ s.stapAAllowed = true ∧ s.naluIn = unit 2 10 :: [unit 3 3] ∧ [unit 3 3] ≠ []
      ∧ (∀ u ∈ s.naluIn, u ≠ [] ∧ s.caps.PortAccepts u.length
        ∧ (3 ≤ s.maxPayloadSize.toNat ∨ u.length ≤ s.maxPayloadSize.toNat))
      ∧ s.caps.PortAccepts s.maxPayloadSize.toNat ∧ s.maxPayloadSize.toNat / 2 = (unit 2 10).length := by decide
theorem witness_LoneUnitIsASingleNalPayload :
    let s := tx 1 20 [unit 1 20]
    s.live = true ∧ s.mode = 1 ∧ s.naluIn = [unit 1 20] ∧ unit 1 20 ≠ [] ∧ (unit 1 20).length ≤ s.maxPayloadSize.toNat
      ∧ s.caps.PortAccepts (unit 1 20).length := by decide
theorem witness_LongUnitIsFragmented :
    let s := { tx 1 3 [[0x41, 1, 2, 3]] with caps := small }
    s.live = true ∧ s.mode = 1 ∧ s.naluIn = [[0x41, 1, 2, 3]] ∧ 3 ≤ s.maxPayloadSize.toNat
      ∧ s.maxPayloadSize.toNat < [(0x41 : Byte), 1, 2, 3].length ∧ s.caps.PortAccepts [(0x41 : Byte), 1, 2, 3].length := by decide
theorem witness_AggregationOffSendsEveryUnitDirectly :
    let s := { tx 1 20 [unit 1 3, unit 2 4, unit 3 25] with stapAAllowed := false }
    s.live = true ∧ s.mode = 1 ∧ s.stapAAllowed = false
      ∧ ∀ n ∈ s.naluIn, n ≠ [] ∧ s.caps.PortAccepts n.length
        ∧ (3 ≤ s.maxPayloadSize.toNat ∨ n.length ≤ s.maxPayloadSize.toNat) := by decide
/-- Vector 3.17. -/
theorem witness_FragmentingBelowThreeIsRefused :
    let s := tx 1 2 [[0x41, 0xAA, 0xBB]]
    s.live = true ∧ s.mode = 1 ∧ s.maxPayloadSize.toNat < 3 ∧ (∀ x ∈ s.naluIn, x ≠ []) ∧ [0x41, 0xAA, 0xBB] ∈ s.naluIn
      ∧ s.maxPayloadSize.toNat < [(0x41 : Byte), 0xAA, 0xBB].length := by decide
theorem witness_PackIsPure :
    ∃ s t, exec (.pack 7) s = .next t := ⟨tx 1 20 [unit 1 3], _, rfl⟩
theorem witness_UnpackRunsThePayloadRow :
    let s := rx none [] [0x7C, 0x85, 0xAA] 5 false
    s.live = true ∧ s.rtpIn = ⟨[0x7C, 0x85, 0xAA], 5, false⟩ :: []
      ∧ decodePayload [0x7C, 0x85, 0xAA] = .ok (.payloadFuA 0 3 [0x85, 0xAA]) := by decide +kernel
theorem witness_UnpackOfASingleNal :
    let s := { rx none [[0x41, 2, 3]] [0x41, 1, 2] 5 true with caps := small }
    let s2 := { rx (some [0x65]) [] [0x41, 1, 2] 5 true with caps := small }
    nalType 0x41 ≠ 24 ∧ nalType 0x41 ≠ 28
      ∧ (s.live = true ∧ s.rtpIn = ⟨[0x41, 1, 2], 5, true⟩ :: [] ∧ (decide ((5 : Timestamp) ≠ s.lastTimestamp) && s.reasm.isNone) = true
        ∧ s.caps.PortAccepts 3 ∧ s.caps.PendingHolds ([] ++ [[0x41, 1, 2]]))
      ∧ (s2.live = true ∧ s2.rtpIn = ⟨[0x41, 1, 2], 5, true⟩ :: [] ∧ (decide ((5 : Timestamp) ≠ s2.lastTimestamp) && s2.reasm.isNone) = false
        ∧ s2.caps.PortAccepts 3 ∧ s2.caps.PendingHolds (s2.pending ++ [[0x41, 1, 2]])) := by decide +kernel
theorem witness_UnpackWithoutAReadablePayloadIsRefused :
    (tx 0 9 []).live = true ∧ (tx 0 9 []).rtpIn = [] ∧ (rx none [] [] 1 false).rtpIn = ⟨[], 1, false⟩ :: []
      ∧ (rx none [] [0x1C] 1 true).rtpIn = ⟨[0x1C], 1, true⟩ :: [] ∧ nalType 0x1C = 28 := by decide +kernel
theorem witness_SingleNalRowsAppendTheWholePayload :
    let s := { rx (some [0x65]) [] [] 5 true with caps := small }
    s.live = true ∧ s.caps.PortAccepts ([1, 2].length + 1)
      ∧ s.caps.PendingHolds (s.pending ++ [((1 : BitVec 1) ++ (2 : BitVec 2) ++ (31 : BitVec 5)) :: [1, 2]]) := by decide +kernel
theorem witness_StapASplitsIntoItsMembers :
    let s := rx (some [0x65]) [[1]] [] 5 true
    let members : List Bytes := [[0x67, 0x42], [], [0x09]]
    s.live = true ∧ (∀ m ∈ members, m.length < 65536) ∧ s.caps.PortAccepts 10 ∧ s.caps.PendingHolds (s.pending ++ members) := by
  decide
theorem witness_MalformedStapAKeepsTheMembersBefore :
    let s := rx none [] [] 5 true
    let members : List Bytes := [[0x67, 0x42]]
    s.live = true ∧ (∀ m ∈ members, m.length < 65536) ∧ [(0 : Byte)].length = 1
      ∧ (∃ (hi lo : Byte) (left : Bytes), ([0x00, 0x03, 0x68, 0xCE] : Bytes) = hi :: lo :: left ∧ left.length < hi.toNat * 256 + lo.toNat)
      ∧ s.caps.PortAccepts 9 ∧ s.caps.PendingHolds (s.pending ++ members) :=
  ⟨rfl, by decide, rfl, ⟨0x00, 0x03, [0x68, 0xCE], rfl, by decide⟩, by decide, by decide⟩
theorem witness_StartFragmentBeginsAUnit :
    let s := { rx (some [0x65]) [] [] 5 true with caps := small }
    s.live = true ∧ s.caps.PortAccepts ([1, 2].length + 2) ∧ s.caps.ReasmHolds ([1, 2].length + 1) := by decide
theorem witness_MiddleFragmentExtendsTheUnit :
    let s := { rx (some [0x65]) [] [] 5 true with caps := small }
    s.live = true ∧ s.caps.PortAccepts ([1, 2].length + 2) ∧ s.reasm = some [0x65] ∧ s.caps.ReasmHolds ([(0x65 : Byte)].length + [1, 2].length)
      ∧ (rx none [] [] 5 true).reasm = none := by decide
theorem witness_EndFragmentCompletesTheUnit :
    let s := { rx (some [0x65]) [] [] 5 true with caps := small }
    s.live = true ∧ s.caps.PortAccepts ([1, 2].length + 2) ∧ s.reasm = some [0x65]
      ∧ s.caps.ReasmHolds ([(0x65 : Byte)].length + [1, 2].length) ∧ s.caps.PortAccepts ([(0x65 : Byte)].length + [1, 2].length)
      ∧ s.caps.PendingHolds (s.pending ++ [[0x65] ++ [1, 2]]) ∧ (rx none [] [] 5 true).reasm = none := by decide
theorem witness_StartEndFragmentIsAWholeUnit :
    let s := { rx (some [0x65]) [] [] 5 true with caps := small }
    s.live = true ∧ s.caps.PortAccepts ([1, 2].length + 2) ∧ s.caps.ReasmHolds ([1, 2].length + 1)
      ∧ s.caps.PendingHolds (s.pending ++ [((0 : BitVec 1) ++ (2 : BitVec 2) ++ (1 : BitVec 5)) :: [1, 2]]) := by decide +kernel
theorem witness_FuAPayloadIsItsFragment :
    let s := { rx (some [0x65]) [] [] 5 true with caps := small }
    let unit : Bytes := if (0x45 : Byte).getLsbD 7 then hdr 3 (fuType 0x45) :: [1, 2] else s.reasm.getD [] ++ [1, 2]
    s.live = true ∧ s.caps.PortAccepts ([1, 2].length + 2) ∧ s.caps.ReasmHolds unit.length ∧ s.caps.PortAccepts unit.length
      ∧ s.caps.PendingHolds (s.pending ++ [unit]) := by decide +kernel
/-- One payload for each clause: single NAL, STAP-A malformed and whole, Start fragment, End fragment. -/
theorem witness_UnpackFollowsTheStateTable :
    (nalType 0x41 ≠ 24 ∧ nalType 0x41 ≠ 28 ∧ ∃ t, exec (.unpack 0) (rx (some [0x65]) [] [0x41] 5 false) = .next t)
      ∧ (nalType 0x18 = 24 ∧ (∃ t, exec (.unpack 0) (rx (some [0x65]) [] [0x18, 0] 5 false) = .next t)
        ∧ ∃ t, exec (.unpack 0) (rx none [[1]] [0x18, 0, 1, 9] 5 true) = .next t)
      ∧ (nalType 0x7C = 28 ∧ (0x85 : Byte).getLsbD 7 = true
        ∧ ∃ t, exec (.unpack 0) (rx (some [0x65]) [] [0x7C, 0x85] 5 false) = .next t)
      ∧ (nalType 0x7C = 28 ∧ (0x45 : Byte).getLsbD 7 = false
        ∧ ∃ t, exec (.unpack 0) (rx none [] [0x7C, 0x45] 5 false) = .next t) :=
  ⟨⟨by decide, by decide, _, rfl⟩, ⟨by decide, ⟨_, rfl⟩, _, rfl⟩, ⟨by decide, by decide, _, rfl⟩, ⟨by decide, by decide, _, rfl⟩⟩
/-- One state for each clause: no boundary, a new timestamp while Idle, a marked payload. -/
theorem witness_DeliveryOnlyAtFrameBoundaries :
    (¬ (false = true ∨ ((0 : Timestamp) ≠ (rx none [[1]] [0x41] 0 false).lastTimestamp ∧ (rx none [[1]] [0x41] 0 false).reasm = none))
        ∧ ∃ t, exec (.unpack 0) (rx none [[1]] [0x41] 0 false) = .next t)
      ∧ ((5 : Timestamp) ≠ (rx none [[1]] [0x41] 5 false).lastTimestamp ∧ (rx none [[1]] [0x41] 5 false).reasm = none
        ∧ ∃ t, exec (.unpack 0) (rx none [[1]] [0x41] 5 false) = .next t)
      ∧ ∃ t, exec (.unpack 0) (rx none [[1]] [0x41] 0 true) = .next t :=
  ⟨⟨by decide, _, rfl⟩, ⟨by decide, rfl, _, rfl⟩, _, rfl⟩
theorem witness_SentinelIsUnobservable : (rx none [] [0x41] 5 false).pending = [] ∧ (rx none [] [0x41] 5 false).reasm = none := by decide
/-- One byte or one entry too many for each clause: `pack` (a queued unit; an aggregate), the rows, `unpack`. -/
theorem witness_OverCapacityIsRefused :
    let s := { rx (some [0x65]) [[1]] [0x41, 1, 2, 3, 4] 5 true with caps := small, naluIn := [[0x41, 1, 2, 3, 4]] }
    let p := { tx 1 20 [[0x41], [0x42]] with caps := small }
    (s.live = true ∧ s.mode = 0 ∧ [0x41, 1, 2, 3, 4] ∈ s.naluIn ∧ ¬ s.caps.PortAccepts [(0x41 : Byte), 1, 2, 3, 4].length)
      ∧ (p.live = true ∧ ∃ t, exec (.pack 7) { p with caps := Capacities.unbounded } = .next t
        ∧ ∃ r ∈ t.rtpOut.drop p.rtpOut.length, ¬ p.caps.PortAccepts r.bytes.length)
      ∧ ((1 : BitVec 5) ≠ 24 ∧ (1 : BitVec 5) ≠ 28 ∧ ¬ s.caps.PortAccepts ([1, 2, 3, 4].length + 1)
        ∧ ¬ s.caps.PendingHolds (s.pending ++ [((0 : BitVec 1) ++ (2 : BitVec 2) ++ (1 : BitVec 5)) :: []]))
      ∧ ([[]] ≠ ([] : List Bytes) ∧ (∀ m ∈ ([[]] : List Bytes), m.length < 65536) ∧ ([0] : Bytes).length ≤ 1
        ∧ (∃ (hi lo : Byte) (left : Bytes), ([0, 1] : Bytes) = hi :: lo :: left ∧ left.length < hi.toNat * 256 + lo.toNat)
        ∧ ¬ s.caps.PendingHolds (s.pending ++ [[]]))
      ∧ (¬ s.caps.PortAccepts ([1, 2, 3].length + 2) ∧ ¬ s.caps.ReasmHolds (hdr 3 (fuType 0x85) :: [1, 2, 3]).length
        ∧ ¬ s.caps.ReasmHolds ([0x65] ++ [(1 : Byte), 2, 3]).length
        ∧ (0x45 : Byte).getLsbD 6 = true ∧ ¬ s.caps.PendingHolds (s.pending ++ [[0x65] ++ [1]]))
      ∧ (s.rtpIn = ⟨[0x41, 1, 2, 3, 4], 5, true⟩ :: []
        ∧ decodePayload [0x41, 1, 2, 3, 4] = .ok (.payloadSingleNalT1 0 2 [1, 2, 3, 4])
        ∧ exec (.payloadSingleNalT1 0 2 [1, 2, 3, 4]) (preCheck 5 { s with rtpIn := [] }) = .refused .overCapacity
        ∧ nalType 0x41 ≠ 24 ∧ nalType 0x41 ≠ 28
        ∧ ¬ s.caps.PendingHolds ((if (5 : Timestamp) ≠ s.lastTimestamp ∧ s.reasm = none then [] else s.pending)
            ++ [[0x41, 1, 2, 3, 4]])) :=
  ⟨by decide, ⟨rfl, _, rfl, by decide +kernel⟩, by decide +kernel, ⟨by decide, by decide, by decide, ⟨0, 1, [], rfl, by decide⟩, by decide⟩,
    by decide +kernel, ⟨rfl, by decide +kernel, rfl, by decide, by decide, by decide⟩⟩
/-- Each of the seven commands completes somewhere. -/
theorem witness_CommandsWriteOnlyTheirFields :
    (∃ t, exec (.init 1) (tx 1 20 []) = .next t) ∧ (∃ t, exec (.setMode 1) (tx 1 20 []) = .next t)
      ∧ (∃ t, exec (.enableStapA 1) (tx 1 20 []) = .next t) ∧ (∃ t, exec (.setMaxPayloadSize 1) (tx 1 20 []) = .next t)
      ∧ (∃ t, exec (.pack 1) (tx 1 20 [unit 1 3]) = .next t) ∧ (∃ t, exec (.unpack 1) (rx none [] [0x41] 1 true) = .next t)
      ∧ (∃ t, exec (.uninit 1) (tx 1 20 []) = .next t) :=
  ⟨⟨_, rfl⟩, ⟨_, rfl⟩, ⟨_, rfl⟩, ⟨_, rfl⟩, ⟨_, rfl⟩, ⟨_, rfl⟩, ⟨_, rfl⟩⟩
theorem witness_StepsOnlyPopInputsAndPushOutputs :
    ∃ t, step { rx none [[1]] [0x41] 5 true with cmdIn := [0x500000000] } = .next t := ⟨_, rfl⟩
theorem witness_EveryStepKeepsTheContextInv :
    let s := { rx (some [0x65]) [[1]] [0x7C, 0x45, 9] 5 true with cmdIn := [0x500000000] }
    s.ContextInv ∧ ∃ t, step s = .next t := ⟨by decide, _, rfl⟩
theorem witness_FragmentsRebuildTheirUnit :
    3 ≤ 3 ∧ 3 < [(0x65 : Byte), 1, 2, 3].length ∧ nalF (firstByte [0x65, 1, 2, 3]) = 0
      ∧ (rx none [[1]] [] 5 true).live = true ∧ (rx none [[1]] [] 5 true).caps = Capacities.unbounded
      ∧ (rx none [[1]] [] 5 true).reasm = none ∧ ({ rx none [[1]] [] 5 true with lastTimestamp := 5 } : State).lastTimestamp = 5 := by
  decide
/-- Vector 3.10. -/
theorem witness_PackThenUnpackRoundTrip :
    let s := tx 1 20 [unit 1 3, unit 2 4, unit 3 25]
    let r := rx none [] [] 5 true
    s.live = true ∧ s.mode = 1 ∧ 3 ≤ s.maxPayloadSize.toNat ∧ s.caps = Capacities.unbounded ∧ s.naluIn ≠ []
      ∧ (∀ n ∈ s.naluIn, n ≠ [] ∧ nalType (firstByte n) ≠ 24 ∧ nalType (firstByte n) ≠ 28
        ∧ (s.maxPayloadSize.toNat < n.length → nalF (firstByte n) = 0))
      ∧ r.live = true ∧ r.caps = Capacities.unbounded ∧ r.reasm = none ∧ r.pending = [] := by decide +kernel

end Sys2Proof.Tests
end

-- ==== Proofs of the family 10_state ====
section
/-! PROOF. Hardware reset (R25, R170): one rule per field the reset clears or must keep, and R18 as an equivalence. -/

namespace Sys2Proof.Machine

/-- R18: the state Idle of the depacketizer is read off CTX.reasm alone. -/
theorem depacketizer_eq_idle_iff (s : State) : depacketizer s = .idle ↔ s.reasm = none := by
  unfold depacketizer
  cases s.reasm with
  | none => simp
  | some b => simp

section HardwareReset

variable (mode : BitVec 32) (size : BitVec 16) (stapA : Bool) (ts : Timestamp) (s : State)

@[simp] theorem hardwareReset_live : (hardwareReset mode size stapA ts s).live = false := rfl
@[simp] theorem hardwareReset_reasm : (hardwareReset mode size stapA ts s).reasm = none := rfl
@[simp] theorem hardwareReset_pending : (hardwareReset mode size stapA ts s).pending = [] := rfl
@[simp] theorem hardwareReset_naluIn : (hardwareReset mode size stapA ts s).naluIn = s.naluIn := rfl
@[simp] theorem hardwareReset_rtpOut : (hardwareReset mode size stapA ts s).rtpOut = s.rtpOut := rfl
@[simp] theorem hardwareReset_rtpIn : (hardwareReset mode size stapA ts s).rtpIn = s.rtpIn := rfl
@[simp] theorem hardwareReset_naluOut : (hardwareReset mode size stapA ts s).naluOut = s.naluOut := rfl
@[simp] theorem hardwareReset_evtOut : (hardwareReset mode size stapA ts s).evtOut = s.evtOut := rfl

/-- R25 with R18: no reassembly survives the reset, so the depacketizer is Idle. -/
theorem hardwareReset_idle : depacketizer (hardwareReset mode size stapA ts s) = .idle :=
  (depacketizer_eq_idle_iff _).mpr (hardwareReset_reasm mode size stapA ts s)

end HardwareReset

@[simp] theorem reset_live : State.reset.live = false := rfl
@[simp] theorem reset_reasm : State.reset.reasm = none := rfl
@[simp] theorem reset_pending : State.reset.pending = [] := rfl

/-- Settles O8: the reset of a running instance field by field, then the state after power-on. -/
theorem hardwareResetLeavesNoContext : Obligations.HardwareResetLeavesNoContext := by
  unfold Obligations.HardwareResetLeavesNoContext
  constructor
  · intro mode size stapA ts s
    simp [hardwareReset_idle]
  · exact ⟨reset_live, reset_reasm, reset_pending⟩

end Sys2Proof.Machine
end

-- ==== Proofs of the family 40_pack_dispatch_mode0 ====
section
/-! PROOF. The dispatch of `pack` on CTX.mode (R81, R82), its Mode 0 (R83 to R86), the refusal of empty units (R87) and the fields it
leaves alone (R89): first what each row runs in its mode and what the shared commit does, then the statements. -/

namespace Sys2Proof.Machine

/-! ### The row that CTX.mode selects (R81) -/

section Dispatch

variable {s : State} (ts : Timestamp)

theorem exec_pack_of_mode0 (hl : s.live = true) (hm : s.mode = 0) : exec (.pack ts) s = runPackMode0 ts s :=
  (whileLive_live _ hl).trans (if_pos hm)

theorem exec_pack_of_mode1 (hl : s.live = true) (hm : s.mode = 1) : exec (.pack ts) s = runPackMode1 ts s := by
  have h0 : s.mode ≠ 0 := by rw [hm]; decide
  exact (whileLive_live _ hl).trans ((if_neg h0).trans (if_pos hm))

theorem exec_pack_of_badMode (hl : s.live = true) (h0 : s.mode ≠ 0) (h1 : s.mode ≠ 1) :
    exec (.pack ts) s = runPackBadMode s :=
  (whileLive_live _ hl).trans ((if_neg h0).trans (if_neg h1))

theorem exec_packMode0_of_mode0 (hl : s.live = true) (hm : s.mode = 0) : exec (.packMode0 ts) s = runPackMode0 ts s :=
  (whileLive_live _ hl).trans (if_pos hm)

theorem exec_packBadMode_of_badMode (hl : s.live = true) (h0 : s.mode ≠ 0) (h1 : s.mode ≠ 1) :
    exec (.packBadMode ts) s = runPackBadMode s :=
  (whileLive_live _ hl).trans (if_neg (not_or.mpr ⟨h0, h1⟩))

end Dispatch

/-! ### The commit that both modes share -/

theorem admitsLength_iff (caps : Capacities) (n : Nat) : admitsLength caps n = true ↔ caps.PortAccepts n :=
  withinCap_iff caps.nalMaxLen n

theorem packAdmits_iff (caps : Capacities) (nalus : List Bytes) (rs : List RtpRecord) :
    packAdmits caps nalus rs = true
      ↔ (∀ n ∈ nalus, caps.PortAccepts n.length) ∧ ∀ r ∈ rs, caps.PortAccepts r.bytes.length := by
  simp only [packAdmits, Bool.and_eq_true, List.all_eq_true, admitsLength_iff]

/-- R87 comes before every other refusal of a `pack`. -/
theorem packCommit_of_emptyUnit {s : State} (out : Option (List RtpRecord)) (evs : List EventCode) (h : [] ∈ s.naluIn) :
    packCommit out evs s = .refused .emptyNalUnit :=
  if_pos (List.any_eq_true.mpr ⟨[], h, rfl⟩)

theorem packCommit_of_admits {s : State} {rs : List RtpRecord} (evs : List EventCode) (hne : ∀ n ∈ s.naluIn, n ≠ [])
    (hfit : packAdmits s.caps s.naluIn rs = true) :
    packCommit (some rs) evs s = .next (pushEvents evs (emitRecords rs (drainNaluIn s))) := by
  have hnone : ¬ s.naluIn.any List.isEmpty = true := fun h => hne [] (by simpa using h) rfl
  exact (if_neg hnone).trans (if_pos hfit)

/-- R86: with nothing queued and nothing to push, the commit leaves the state as it is. -/
theorem packCommit_of_nil {s : State} (h : s.naluIn = []) : packCommit (some []) [] s = .next s := by
  rw [packCommit_of_admits [] (by simp [h]) (by simp [packAdmits_iff, h])]
  simp [pushEvents, emitRecords, drainNaluIn, ← h]

/-! ### The payloads and events of Mode 0 (R83, R84) -/

/-- Every unit becomes a record of its own, and only the last one stands at the end of the queue. -/
theorem mode0Records_eq_mapIdx (ts : Timestamp) (nalus : List Bytes) :
    mode0Records ts nalus = nalus.mapIdx (fun i n => ⟨n, ts, decide (i + 1 = nalus.length)⟩) := by
  induction nalus with
  | nil => rfl
  | cons n rest ih =>
    have hlast : lastMarker rest = decide (0 + 1 = (n :: rest).length) := by
      cases rest with
      | nil => rfl
      | cons m tail => simp [lastMarker]
    rw [mode0Records, List.mapIdx_cons, ih, hlast]
    simp

theorem bytes_mem_of_mem_mode0Records {ts : Timestamp} {nalus : List Bytes} {r : RtpRecord}
    (h : r ∈ mode0Records ts nalus) : r.bytes ∈ nalus := by
  rw [mode0Records_eq_mapIdx, List.mem_mapIdx] at h
  obtain ⟨i, hi, rfl⟩ := h
  exact List.getElem_mem hi

theorem mode0Events_eq_filter (M : Nat) (nalus : List Bytes) :
    mode0Events M nalus = (nalus.filter (fun n => decide (M < n.length))).map (fun _ => codeOversize) := by
  induction nalus with
  | nil => rfl
  | cons n rest ih => by_cases h : M < n.length <;> simp [mode0Events, h, ih]

/-- Mode 0 sends the units themselves, so what the port accepted as input it accepts as output. -/
theorem packAdmits_mode0Records {caps : Capacities} {nalus : List Bytes} (ts : Timestamp)
    (h : ∀ n ∈ nalus, caps.PortAccepts n.length) : packAdmits caps nalus (mode0Records ts nalus) = true :=
  (packAdmits_iff ..).mpr ⟨h, fun _ hr => h _ (bytes_mem_of_mem_mode0Records hr)⟩

theorem runPackMode0_of_admits {s : State} (ts : Timestamp)
    (h : ∀ n ∈ s.naluIn, n ≠ [] ∧ s.caps.PortAccepts n.length) :
    runPackMode0 ts s = .next (pushEvents (mode0Events s.maxPayloadSize.toNat s.naluIn)
      (emitRecords (mode0Records ts s.naluIn) (drainNaluIn s))) :=
  packCommit_of_admits _ (fun n hn => (h n hn).1) (packAdmits_mode0Records ts fun n hn => (h n hn).2)

/-! ### What `pack` does not touch (R89) -/

/-- The fields that belong to the receiving side: the depacketizer's own, the received payloads and the delivered units. -/
def withReceiver (l : Timestamp) (r : Option Bytes) (p : List Bytes) (q : List RtpRecord) (o : List Bytes) (s : State) :
    State :=
  { s with lastTimestamp := l, reasm := r, pending := p, rtpIn := q, naluOut := o }

/-- R89 of a meaning: it writes the packetizer's queues only, and the receiving side's fields have no part in its answer. -/
structure PackPure (run : State → Result) : Prop where
  frame : ∀ s t : State, run s = .next t → t = { s with naluIn := t.naluIn, rtpOut := t.rtpOut, evtOut := t.evtOut }
  indep : ∀ l r p q o s, run (withReceiver l r p q o s) = thenNext (run s) (withReceiver l r p q o)

theorem packPure_refused (e : Refusal) : PackPure (fun _ => .refused e) where
  frame _ _ h := by cases h
  indep _ _ _ _ _ _ := rfl

theorem packPure_runPackBadMode : PackPure runPackBadMode where
  frame _ _ h := by cases h; rfl
  indep _ _ _ _ _ _ := rfl

theorem packCommit_frame {out : Option (List RtpRecord)} {evs : List EventCode} {s t : State}
    (h : packCommit out evs s = .next t) :
    t = { s with naluIn := t.naluIn, rtpOut := t.rtpOut, evtOut := t.evtOut } := by
  obtain ⟨-, rs, -, -, rfl⟩ := packCommit_next h
  rfl

/-- The checks of the commit read NALU_IN and the capacities only, and its writes do not meet the receiving side's fields. -/
theorem packCommit_withReceiver (out : Option (List RtpRecord)) (evs : List EventCode) (l : Timestamp) (r : Option Bytes)
    (p : List Bytes) (q : List RtpRecord) (o : List Bytes) (s : State) :
    packCommit out evs (withReceiver l r p q o s) = thenNext (packCommit out evs s) (withReceiver l r p q o) := by
  have hin : (withReceiver l r p q o s).naluIn = s.naluIn := rfl
  have hcaps : (withReceiver l r p q o s).caps = s.caps := rfl
  unfold packCommit
  rw [hin, hcaps]
  split
  · rfl
  · cases out with
    | none => rfl
    | some rs =>
      dsimp only
      split <;> rfl

theorem packPure_runPackMode0 (ts : Timestamp) : PackPure (runPackMode0 ts) where
  frame _ _ h := packCommit_frame h
  indep l r p q o s := packCommit_withReceiver _ _ l r p q o s

theorem packPure_runPackMode1 (ts : Timestamp) : PackPure (runPackMode1 ts) where
  frame _ _ h := packCommit_frame h
  indep l r p q o s := packCommit_withReceiver _ _ l r p q o s

theorem PackPure.whileLive {run : State → Result} (h : PackPure run) : PackPure (fun s => whileLive s (run s)) where
  frame s t ht := h.frame s t (whileLive_next ht).2
  indep l r p q o s := by
    cases hl : s.live with
    | false => rw [whileLive_dead _ hl, whileLive_dead _ (show (withReceiver l r p q o s).live = false from hl)]; rfl
    | true =>
      rw [whileLive_live _ hl, whileLive_live _ (show (withReceiver l r p q o s).live = true from hl)]
      exact h.indep l r p q o s

/-- A dispatch on CTX.mode between two such meanings is one. -/
theorem PackPure.ite_mode (c : BitVec 32 → Prop) [DecidablePred c] {f g : State → Result} (hf : PackPure f)
    (hg : PackPure g) : PackPure (fun s => if c s.mode then f s else g s) where
  frame s t ht := by
    by_cases hc : c s.mode
    · exact hf.frame s t ((if_pos hc).symm.trans ht)
    · exact hg.frame s t ((if_neg hc).symm.trans ht)
  indep l r p q o s := by
    have hmode : (withReceiver l r p q o s).mode = s.mode := rfl
    rw [hmode]
    split
    · exact hf.indep l r p q o s
    · exact hg.indep l r p q o s

theorem packPure_execPack (ts : Timestamp) : PackPure (execPack ts) :=
  (PackPure.ite_mode (· = 0) (packPure_runPackMode0 ts)
    (.ite_mode (· = 1) (packPure_runPackMode1 ts) packPure_runPackBadMode)).whileLive

theorem packPure_execPackMode0 (ts : Timestamp) : PackPure (execPackMode0 ts) :=
  (PackPure.ite_mode (· = 0) (packPure_runPackMode0 ts) (packPure_refused .packRowNotSelected)).whileLive

theorem packPure_execPackMode1 (ts : Timestamp) : PackPure (execPackMode1 ts) :=
  (PackPure.ite_mode (· = 1) (packPure_runPackMode1 ts) (packPure_refused .packRowNotSelected)).whileLive

theorem packPure_execPackBadMode (ts : Timestamp) : PackPure (execPackBadMode ts) :=
  (PackPure.ite_mode (fun m => m = 0 ∨ m = 1) (packPure_refused .packRowNotSelected) packPure_runPackBadMode).whileLive

/-! ### The statements -/

/-- Settles O17: the commit of Mode 0, with its records and events written as the maps of R84 and R85. -/
theorem mode0SendsEveryUnitUnchanged : Obligations.Mode0SendsEveryUnitUnchanged := by
  unfold Obligations.Mode0SendsEveryUnitUnchanged
  intro ts s hl hm hin
  have hrun := runPackMode0_of_admits ts hin
  rw [mode0Records_eq_mapIdx, mode0Events_eq_filter] at hrun
  exact ⟨(exec_pack_of_mode0 ts hl hm).trans hrun, (exec_packMode0_of_mode0 ts hl hm).trans hrun⟩

/-- Settles O29: each of the four rows is a dispatch between meanings that are pure. -/
theorem packIsPure : Obligations.PackIsPure := by
  unfold Obligations.PackIsPure
  intro i ts hi
  have hpure : PackPure (exec i) := by
    rcases hi with rfl | rfl | rfl | rfl
    · exact packPure_execPack ts
    · exact packPure_execPackMode0 ts
    · exact packPure_execPackMode1 ts
    · exact packPure_execPackBadMode ts
  exact ⟨hpure.frame, fun s l r p q o => hpure.indep l r p q o s⟩

/-- Settles O16: `pack` and its row both run the bad-mode branch, which pushes code 1. -/
theorem badModeLogsAndKeepsItsInput : Obligations.BadModeLogsAndKeepsItsInput := by
  unfold Obligations.BadModeLogsAndKeepsItsInput
  intro ts s hl h0 h1
  exact ⟨exec_pack_of_badMode ts hl h0 h1, exec_packBadMode_of_badMode ts hl h0 h1⟩

/-- Settles O18: both modes commit no record and no event; the bad mode does not look at NALU_IN. -/
theorem emptyPackEmitsNothing : Obligations.EmptyPackEmitsNothing := by
  unfold Obligations.EmptyPackEmitsNothing
  intro ts s hl hnil
  refine ⟨?_, exec_pack_of_badMode ts hl⟩
  rintro (hm | hm)
  · rw [exec_pack_of_mode0 ts hl hm, runPackMode0, hnil]
    exact packCommit_of_nil hnil
  · rw [exec_pack_of_mode1 ts hl hm, runPackMode1, hnil]
    exact packCommit_of_nil hnil

/-- Settles O19: both modes end in the commit, which refuses an empty unit first. -/
theorem emptyNalUnitRefusesThePack : Obligations.EmptyNalUnitRefusesThePack := by
  unfold Obligations.EmptyNalUnitRefusesThePack
  rintro ts s hl (hm | hm) hempty
  · exact (exec_pack_of_mode0 ts hl hm).trans (packCommit_of_emptyUnit _ _ hempty)
  · exact (exec_pack_of_mode1 ts hl hm).trans (packCommit_of_emptyUnit _ _ hempty)

end Sys2Proof.Machine
end

-- ==== Proofs of the family 41_pack_mode1: what a Mode-1 pack pushes ====
section
/-! PROOF. The payloads of Mode 1 (R90 to R106): the fragments of one unit, the candidate as the run of units it holds, and the
frame as a sequence of runs that each leave in one of three ways (`FramePayloads`). What R105 and R106 say of the payloads is then
read off that sequence. -/

namespace Sys2Proof.Machine

/-! ### The fragments of one unit (R102, R103) -/

/-- R103: the fragment count is the ceiling of (S - 1) / (M - 2), and a unit longer than M needs two or more. -/
theorem fragmentCount_spec {M S : Nat} (hM : 3 ≤ M) (hS : M < S) :
    2 ≤ fragmentCount M S ∧ (fragmentCount M S - 1) * (M - 2) < S - 1 ∧ S - 1 ≤ fragmentCount M S * (M - 2) := by
  have hP : 0 < M - 2 := by omega
  have htwo : 2 ≤ fragmentCount M S := (Nat.le_div_iff_mul_le hP).mpr (by omega)
  have hlow : fragmentCount M S * (M - 2) ≤ S - 1 + (M - 3) := Nat.div_mul_le_self _ _
  have hhigh : S - 1 + (M - 3) < (fragmentCount M S + 1) * (M - 2) := Nat.lt_mul_of_div_lt (Nat.lt_succ_self _) hP
  rw [Nat.add_mul] at hhigh
  rw [Nat.sub_mul]
  omega

/-- The data of fragment j: the slice of R102 without its bound at the end of the unit, which `take` keeps by itself. -/
def fragmentData (M : Nat) (n : Bytes) (j : Nat) : Bytes := ((n.drop 1).drop (j * (M - 2))).take (M - 2)

theorem fragmentAt_bytes (M : Nat) (ts : Timestamp) (n : Bytes) (last : Bool) (c j : Nat) :
    (fragmentAt M ts n last c j).bytes =
      hdr (nalNri (firstByte n)) 28 :: fuHdr (decide (j = 0)) (decide (j + 1 = c)) (nalType (firstByte n))
        :: fragmentData M n j := by
  have hslice : slice n (1 + j * (M - 2)) (min (1 + (j + 1) * (M - 2)) n.length) = fragmentData M n j := by
    rw [slice, fragmentData, List.drop_drop, List.take_eq_take_iff, List.length_drop, Nat.add_mul]
    omega
  simp only [fragmentAt, hslice]

theorem fragmentAt_length (M : Nat) (ts : Timestamp) (n : Bytes) (last : Bool) (c j : Nat) :
    (fragmentAt M ts n last c j).bytes.length = min (M - 2) (n.length - 1 - j * (M - 2)) + 2 := by
  simp [fragmentAt_bytes, fragmentData, Nat.sub_sub, Nat.add_comm 1]

@[simp] theorem fragment_length (M : Nat) (ts : Timestamp) (n : Bytes) (last : Bool) :
    (fragment M ts n last).length = fragmentCount M n.length := by simp [fragment]

theorem fragment_getElem? {M : Nat} {ts : Timestamp} {n : Bytes} {last : Bool} {j : Nat} {r : RtpRecord}
    (h : (fragment M ts n last)[j]? = some r) :
    j < fragmentCount M n.length ∧ r = fragmentAt M ts n last (fragmentCount M n.length) j := by
  obtain ⟨hj, rfl⟩ := List.getElem?_eq_some_iff.mp h
  exact ⟨by simpa using hj, by simp [fragment]⟩

theorem mem_fragment {M : Nat} {ts : Timestamp} {n : Bytes} {last : Bool} {r : RtpRecord} (h : r ∈ fragment M ts n last) :
    ∃ j, j < fragmentCount M n.length ∧ r = fragmentAt M ts n last (fragmentCount M n.length) j := by
  obtain ⟨j, hj⟩ := List.mem_iff_getElem?.mp h
  exact ⟨j, fragment_getElem? hj⟩

/-- R103: no fragment is longer than M. -/
theorem length_le_of_mem_fragment {M : Nat} (hM : 3 ≤ M) {ts : Timestamp} {n : Bytes} {last : Bool} {r : RtpRecord}
    (h : r ∈ fragment M ts n last) : r.bytes.length ≤ M := by
  obtain ⟨j, -, rfl⟩ := mem_fragment h
  rw [fragmentAt_length]
  omega

/-- Consecutive pieces of P bytes put together are the bytes up to where the last piece ends. -/
theorem flatMap_pieces (P : Nat) (b : Bytes) (c : Nat) :
    (List.range c).flatMap (fun j => (b.drop (j * P)).take P) = b.take (c * P) := by
  induction c with
  | zero => simp
  | succ c ih => simp [List.range_succ, List.flatMap_append, ih, Nat.add_mul, List.take_add]

/-- R103: the data of the fragments is the unit without its header byte. -/
theorem fragment_data {M : Nat} {n : Bytes} (hM : 3 ≤ M) (hn : M < n.length) (ts : Timestamp) (last : Bool) :
    (fragment M ts n last).flatMap (fun r => r.bytes.drop 2) = n.drop 1 := by
  obtain ⟨-, -, hall⟩ := fragmentCount_spec hM hn
  calc (fragment M ts n last).flatMap (fun r => r.bytes.drop 2)
      = (List.range (fragmentCount M n.length)).flatMap (fragmentData M n) := by
        simp only [fragment, List.flatMap_map, fragmentAt_bytes, List.drop_succ_cons, List.drop_zero]
    _ = (n.drop 1).take (fragmentCount M n.length * (M - 2)) := flatMap_pieces ..
    _ = n.drop 1 := List.take_of_length_le (by simpa using hall)

/-- R102: every fragment but the last is unmarked, and the last carries the caller's end-of-frame flag. -/
theorem fragment_eq_append {M : Nat} {n : Bytes} (hM : 3 ≤ M) (hn : M < n.length) (ts : Timestamp) (last : Bool) :
    ∃ d, fragmentCount M n.length = d + 1 ∧ 1 ≤ d ∧
      fragment M ts n last =
        (List.range d).map (fragmentAt M ts n last (d + 1)) ++ [fragmentAt M ts n last (d + 1) d] := by
  obtain ⟨htwo, -, -⟩ := fragmentCount_spec hM hn
  obtain ⟨d, hd⟩ : ∃ d, fragmentCount M n.length = d + 1 := ⟨fragmentCount M n.length - 1, by omega⟩
  exact ⟨d, hd, by omega, by simp [fragment, hd, List.range_succ]⟩

theorem fragmentAt_marker (M : Nat) (ts : Timestamp) (n : Bytes) (last : Bool) (c j : Nat) :
    (fragmentAt M ts n last c j).marker = (decide (j + 1 = c) && last) := rfl

theorem fuHdr_eq_fuHeaderByte (p q : Prop) [Decidable p] [Decidable q] (ty : BitVec 5) :
    fuHdr (decide p) (decide q) ty = fuHeaderByte (if p then 1 else 0) (if q then 1 else 0) 0 ty := by
  by_cases hp : p <;> by_cases hq : q <;> simp [fuHdr, hp, hq]

/-! ### One unit sent directly (R97, R100, R104) -/

/-- The payloads of a unit sent on its own: whole while it fits, else its fragments (R97). -/
def directPayloads (M : Nat) (ts : Timestamp) (n : Bytes) (last : Bool) : List RtpRecord :=
  if n.length ≤ M then [⟨n, ts, last⟩] else fragment M ts n last

theorem emitDirect_eq_directPayloads {M : Nat} {n : Bytes} (h : 3 ≤ M ∨ n.length ≤ M) (ts : Timestamp) (last : Bool) :
    emitDirect M ts n last = some (directPayloads M ts n last) := by
  unfold emitDirect directPayloads
  by_cases hlong : M < n.length
  · rw [if_pos hlong, if_neg (by omega), if_neg (by omega)]
  · rw [if_neg hlong, if_pos (by omega)]

/-- R104: below M = 3 there is no fragment for a unit that needs one. -/
theorem emitDirect_eq_none {M : Nat} {n : Bytes} (hM : M < 3) (hn : M < n.length) (ts : Timestamp) (last : Bool) :
    emitDirect M ts n last = none := by
  rw [emitDirect, if_pos hn, if_pos hM]

/-- A unit sent directly is never sent in anything longer than itself. -/
theorem length_le_of_mem_directPayloads {M : Nat} {ts : Timestamp} {n : Bytes} {last : Bool} {r : RtpRecord}
    (h : 3 ≤ M ∨ n.length ≤ M) (hr : r ∈ directPayloads M ts n last) : r.bytes.length ≤ n.length := by
  unfold directPayloads at hr
  split at hr
  · rw [List.mem_singleton.mp hr]
  · have := length_le_of_mem_fragment (by omega) hr
    omega

/-- Step 2 or step 3 on a unit that does not become the candidate (R97, R100). -/
theorem mode1Loop_sendDirect {M : Nat} {allow : Bool} {n : Bytes} (h : allow = true → ¬ n.length < M / 2) (ts : Timestamp)
    (rest : List Bytes) :
    mode1Loop M allow ts none (n :: rest)
      = (emitDirect M ts n (lastMarker rest)).bind fun d => (mode1Loop M allow ts none rest).map (fun out => d ++ out) := by
  cases allow with
  | true => exact mode1Loop_direct (h rfl)
  | false => exact mode1Loop_off

/-- A unit longer than M that is the whole frame leaves as its fragments, aggregation allowed or not (R97, R100). -/
theorem mode1Records_of_long {M : Nat} {n : Bytes} (hM : 3 ≤ M) (hn : M < n.length) (allow : Bool) (ts : Timestamp) :
    mode1Records M allow ts [n] = some (fragment M ts n true) := by
  have hdirect : emitDirect M ts n (lastMarker []) = some (fragment M ts n true) := by
    rw [emitDirect_eq_directPayloads (.inl hM), directPayloads, if_neg (by omega)]; rfl
  rw [mode1Records, mode1Loop_sendDirect (fun _ => by omega), hdirect]
  simp

/-- R100: the payloads of a frame sent without aggregation. -/
theorem mode1Records_off {M : Nat} {nalus : List Bytes} (h : ∀ n ∈ nalus, 3 ≤ M ∨ n.length ≤ M) (ts : Timestamp) :
    mode1Records M false ts nalus
      = some (nalus.mapIdx fun i n => directPayloads M ts n (decide (i + 1 = nalus.length))).flatten := by
  induction nalus with
  | nil => rfl
  | cons n rest ih =>
    have hlast : lastMarker rest = decide (0 + 1 = (n :: rest).length) := by cases rest <;> simp [lastMarker]
    have ih := ih fun u hu => h u (List.mem_cons_of_mem _ hu)
    rw [mode1Records] at ih ⊢
    rw [mode1Loop_off, emitDirect_eq_directPayloads (h n List.mem_cons_self), ih, List.mapIdx_cons, hlast]
    simp

/-- R104: with M < 3 every unit is M div 2 bytes or longer, so none becomes the candidate, and the first one longer than M reaches
the fragmenter. -/
theorem mode1Records_eq_none {M : Nat} (hM : M < 3) {nalus : List Bytes} (hne : ∀ u ∈ nalus, u ≠ []) {n : Bytes}
    (hmem : n ∈ nalus) (hn : M < n.length) (allow : Bool) (ts : Timestamp) : mode1Records M allow ts nalus = none := by
  induction nalus with
  | nil => cases hmem
  | cons u rest ih =>
    have hpos : 0 < u.length := List.length_pos_iff.mpr (hne u List.mem_cons_self)
    rw [mode1Records, mode1Loop_sendDirect (fun _ => by omega)]
    rcases List.mem_cons.mp hmem with rfl | hrest
    · simp [emitDirect_eq_none hM hn]
    · have ih := ih (fun v hv => hne v (List.mem_cons_of_mem _ hv)) hrest
      rw [mode1Records] at ih
      simp [ih]

/-- R104 is the only reason for a Mode-1 frame to have no payloads. -/
theorem mode1Loop_isSome {M : Nat} {nalus : List Bytes} (h : ∀ n ∈ nalus, 3 ≤ M ∨ n.length ≤ M) (allow : Bool)
    (ts : Timestamp) (pend : Option Candidate) : ∃ out, mode1Loop M allow ts pend nalus = some out := by
  induction nalus generalizing pend with
  | nil => exact ⟨_, rfl⟩
  | cons n rest ih =>
    have ih := ih fun u hu => h u (List.mem_cons_of_mem _ hu)
    unfold mode1Loop
    rw [emitDirect_eq_directPayloads (h n List.mem_cons_self)]
    have hmap : ∀ (f : List RtpRecord → List RtpRecord) (p : Option Candidate),
        ∃ out, (mode1Loop M allow ts p rest).map f = some out := fun f p =>
      let ⟨o, ho⟩ := ih p
      ⟨f o, by rw [ho, Option.map_some]⟩
    split
    · split
      · exact ih _
      · split
        · exact hmap _ _
        · exact hmap _ _
    · exact hmap _ _

/-! ### The candidate and the run of units it holds (R90, R93, R94, R96) -/

/-- A member of a STAP-A payload: the unit behind its big-endian size (R55, R57). -/
def stapMember (u : Bytes) : Bytes := be16 u.length ++ u

/-- The STAP-A payload of the run p :: qs, with the first unit's NRI in its header (R55, R109). -/
def stapPayload (p : Bytes) (qs : List Bytes) : Bytes :=
  hdr (nalNri (firstByte p)) 24 :: (p :: qs).flatMap stapMember

theorem stapPayload_append (p : Bytes) (qs : List Bytes) (n : Bytes) :
    stapPayload p (qs ++ [n]) = stapPayload p qs ++ stapMember n := by simp [stapPayload]

@[simp] theorem stapMember_length (u : Bytes) : (stapMember u).length = u.length + 2 := by
  simp [stapMember, Nat.add_comm]

/-- A unit is shorter than the STAP-A payload it stands in. -/
theorem length_lt_stapPayload {p : Bytes} {qs : List Bytes} {u : Bytes} (hu : u ∈ p :: qs) :
    u.length < (stapPayload p qs).length := by
  have hmem : (stapMember u).length ∈ (p :: qs).map fun v => (stapMember v).length := List.mem_map_of_mem hu
  have hle := List.le_sum_of_mem hmem
  simp only [stapPayload, List.length_cons, List.length_flatMap, stapMember_length] at hle ⊢
  omega

/-- What the aggregator holds after the run p :: qs: p alone as it is, a longer run in STAP-A form, and in either case the size that
the run has in STAP-A form (R90, R96). -/
def candidateOf (p : Bytes) (qs : List Bytes) : Candidate :=
  { bytes := if qs = [] then p else stapPayload p qs, psz := (stapPayload p qs).length, agg := !qs.isEmpty }

theorem newCandidate_eq_candidateOf (n : Bytes) : newCandidate n = candidateOf n [] := by
  simp [newCandidate, candidateOf, stapPayload]

/-- MERGE appends one unit to the run (R93, R94). -/
theorem merge_candidateOf (p : Bytes) (qs : List Bytes) (n : Bytes) :
    merge (candidateOf p qs) n = candidateOf p (qs ++ [n]) := by
  cases qs with
  | nil => simp [candidateOf, merge, toStapA, stapPayload, stapMember]; omega
  | cons q qs =>
    simp only [candidateOf, stapPayload_append]
    simp [merge, toStapA, stapMember]; omega

/-- The merge test asks whether the longer run still leaves a byte of the budget free (R92). -/
theorem candidateOf_psz_add (p : Bytes) (qs : List Bytes) (n : Bytes) :
    (candidateOf p qs).psz + n.length + 2 = (stapPayload p (qs ++ [n])).length := by
  simp [candidateOf, stapPayload_append, Nat.add_assoc]

/-! ### The three ways a run of units leaves (R95, R97, R101) -/

/-- The payloads of one run of units: one unit whole, two or more as a STAP-A payload shorter than M, or one unit in fragments. `last`
says that the run ends its frame. -/
inductive RunPayloads (M : Nat) (ts : Timestamp) (last : Bool) : List Bytes → List RtpRecord → Prop
  | whole (n : Bytes) (h : n.length ≤ M) : RunPayloads M ts last [n] [⟨n, ts, last⟩]
  | stapA (p : Bytes) (qs : List Bytes) (h : (stapPayload p qs).length < M) :
      RunPayloads M ts last (p :: qs) [⟨stapPayload p qs, ts, last⟩]
  | fragments (n : Bytes) (hM : 3 ≤ M) (h : M < n.length) : RunPayloads M ts last [n] (fragment M ts n last)

/-- The payloads of a frame: those of its runs, in order, with the end-of-frame flag for the last run only. -/
inductive FramePayloads (M : Nat) (ts : Timestamp) : List Bytes → List RtpRecord → Prop
  | nil : FramePayloads M ts [] []
  | run {us rest : List Bytes} {rs out : List RtpRecord} (h : RunPayloads M ts (lastMarker rest) us rs)
      (more : FramePayloads M ts rest out) : FramePayloads M ts (us ++ rest) (rs ++ out)

theorem runPayloads_of_emitDirect {M : Nat} {ts : Timestamp} {n : Bytes} {last : Bool} {rs : List RtpRecord}
    (h : emitDirect M ts n last = some rs) : RunPayloads M ts last [n] rs := by
  rcases emitDirect_some h with ⟨hlong, hM, rfl⟩ | ⟨hfit, rfl⟩
  · exact .fragments n hM hlong
  · exact .whole n hfit

theorem framePayloads_of_direct {M : Nat} {allow : Bool} {ts : Timestamp} {n : Bytes} {rest : List Bytes}
    {out : List RtpRecord} (hdirect : allow = true → ¬ n.length < M / 2)
    (more : ∀ o, mode1Loop M allow ts none rest = some o → FramePayloads M ts rest o)
    (h : mode1Loop M allow ts none (n :: rest) = some out) : FramePayloads M ts (n :: rest) out := by
  rw [mode1Loop_sendDirect hdirect, Option.bind_eq_some_iff] at h
  obtain ⟨d, hd, h⟩ := h
  obtain ⟨o, ho, rfl⟩ := Option.map_eq_some_iff.mp h
  exact .run (us := [n]) (runPayloads_of_emitDirect hd) (more o ho)

/-- What a candidate may be while the loop holds it: a unit or an aggregate that may leave as it stands. -/
def HoldsRun (M : Nat) (p : Bytes) (qs : List Bytes) : Prop :=
  if qs = [] then p.length ≤ M else (stapPayload p qs).length < M

theorem runPayloads_of_holdsRun {M : Nat} {p : Bytes} {qs : List Bytes} (h : HoldsRun M p qs) (ts : Timestamp) (last : Bool) :
    RunPayloads M ts last (p :: qs) [⟨(candidateOf p qs).bytes, ts, last⟩] := by
  unfold HoldsRun at h
  by_cases hq : qs = []
  · subst hq
    exact .whole p (by simpa using h)
  · rw [if_neg hq] at h
    rw [candidateOf, if_neg hq]
    exact .stapA p qs h

/-- The loop with aggregation, from no candidate and from a candidate that holds a run: the payloads are those of a frame that starts
with the run held (R92, R95 to R97, R101). -/
theorem mode1Loop_framePayloads (M : Nat) (ts : Timestamp) (nalus : List Bytes) :
    (∀ out, mode1Loop M true ts none nalus = some out → FramePayloads M ts nalus out)
    ∧ ∀ p qs out, HoldsRun M p qs → mode1Loop M true ts (some (candidateOf p qs)) nalus = some out →
        FramePayloads M ts (p :: qs ++ nalus) out := by
  induction nalus with
  | nil =>
    constructor
    · rintro out h
      cases h
      exact .nil
    · rintro p qs out hrun h
      cases h
      exact .run (runPayloads_of_holdsRun hrun ts true) .nil
  | cons n rest ih =>
    obtain ⟨ihNone, ihSome⟩ := ih
    have hnone : ∀ out, mode1Loop M true ts none (n :: rest) = some out → FramePayloads M ts (n :: rest) out := by
      intro out h
      by_cases hsmall : n.length < M / 2
      · rw [mode1Loop_candidate hsmall, newCandidate_eq_candidateOf] at h
        exact ihSome n [] out (by simp [HoldsRun]; omega) h
      · exact framePayloads_of_direct (fun _ => hsmall) ihNone h
    refine ⟨hnone, fun p qs out hrun h => ?_⟩
    by_cases hmerge : (candidateOf p qs).psz + n.length + 2 < M
    · rw [mode1Loop_merge hmerge, merge_candidateOf] at h
      rw [candidateOf_psz_add] at hmerge
      simpa using ihSome p (qs ++ [n]) out (by simpa [HoldsRun] using hmerge) h
    · rw [mode1Loop_flush hmerge] at h
      obtain ⟨o, ho, rfl⟩ := Option.map_eq_some_iff.mp h
      exact .run (rest := n :: rest) (runPayloads_of_holdsRun hrun ts false) (hnone o ho)

/-- The payloads of every Mode-1 frame, aggregation allowed or not (R91, R100). -/
theorem mode1Records_framePayloads {M : Nat} {allow : Bool} {ts : Timestamp} {nalus : List Bytes} {out : List RtpRecord}
    (h : mode1Records M allow ts nalus = some out) : FramePayloads M ts nalus out := by
  cases allow with
  | true => exact (mode1Loop_framePayloads M ts nalus).1 out h
  | false =>
    induction nalus generalizing out with
    | nil => cases h; exact .nil
    | cons n rest ih => exact framePayloads_of_direct (by simp) (fun _ => ih) h

/-! ### The sizes of the payloads (R105) -/

/-- R105 of one run: no payload exceeds M, and one of type 24 that is no input unit is shorter than M. -/
theorem RunPayloads.length_le {M : Nat} {ts : Timestamp} {last : Bool} {us : List Bytes} {rs : List RtpRecord}
    (h : RunPayloads M ts last us rs) : ∀ r ∈ rs, r.bytes.length ≤ M
      ∧ ((∀ n ∈ us, nalType (firstByte n) ≠ 24) → nalType (firstByte r.bytes) = 24 → r.bytes.length + 1 ≤ M) := by
  intro r hr
  cases h with
  | whole n h =>
    rw [List.mem_singleton.mp hr]
    exact ⟨h, fun hus h24 => absurd h24 (hus n List.mem_cons_self)⟩
  | stapA p qs h =>
    rw [List.mem_singleton.mp hr]
    exact ⟨Nat.le_of_lt h, fun _ _ => h⟩
  | fragments n hM h =>
    refine ⟨length_le_of_mem_fragment hM hr, fun _ h24 => ?_⟩
    obtain ⟨j, -, rfl⟩ := mem_fragment hr
    simp [fragmentAt_bytes, firstByte] at h24

theorem FramePayloads.length_le {M : Nat} {ts : Timestamp} {nalus : List Bytes} {out : List RtpRecord}
    (h : FramePayloads M ts nalus out) : ∀ r ∈ out, r.bytes.length ≤ M
      ∧ ((∀ n ∈ nalus, nalType (firstByte n) ≠ 24) → nalType (firstByte r.bytes) = 24 → r.bytes.length + 1 ≤ M) := by
  induction h with
  | nil => simp
  | run h _ ih =>
    intro r hr
    rcases List.mem_append.mp hr with hr | hr
    · obtain ⟨hle, hagg⟩ := h.length_le r hr
      exact ⟨hle, fun hus => hagg fun n hn => hus n (List.mem_append_left _ hn)⟩
    · obtain ⟨hle, hagg⟩ := ih r hr
      exact ⟨hle, fun hus => hagg fun n hn => hus n (List.mem_append_right _ hn)⟩

/-! ### The marker (R106) -/

/-- The last record is marked and no other is. -/
def LastMarked (rs : List RtpRecord) : Prop :=
  ∃ (init : List RtpRecord) (r : RtpRecord), rs = init ++ [r] ∧ r.marker = true ∧ ∀ x ∈ init, x.marker = false

theorem LastMarked.singleton {r : RtpRecord} (h : r.marker = true) : LastMarked [r] := ⟨[], r, rfl, h, by simp⟩

theorem LastMarked.append {rs out : List RtpRecord} (h : LastMarked out) (hrs : ∀ x ∈ rs, x.marker = false) :
    LastMarked (rs ++ out) := by
  obtain ⟨init, r, rfl, hr, hinit⟩ := h
  refine ⟨rs ++ init, r, by simp, hr, fun x hx => ?_⟩
  rcases List.mem_append.mp hx with hx | hx
  · exact hrs x hx
  · exact hinit x hx

theorem mode0Records_lastMarked (ts : Timestamp) {nalus : List Bytes} (h : nalus ≠ []) :
    LastMarked (mode0Records ts nalus) := by
  induction nalus with
  | nil => exact absurd rfl h
  | cons n rest ih =>
    cases rest with
    | nil => exact .singleton rfl
    | cons m tail => exact (ih (by simp)).append (rs := [_]) (by simp [lastMarker])

theorem RunPayloads.unmarked {M : Nat} {ts : Timestamp} {us : List Bytes} {rs : List RtpRecord}
    (h : RunPayloads M ts false us rs) : ∀ r ∈ rs, r.marker = false := by
  intro r hr
  cases h with
  | whole => rw [List.mem_singleton.mp hr]
  | stapA => rw [List.mem_singleton.mp hr]
  | fragments =>
    obtain ⟨j, -, rfl⟩ := mem_fragment hr
    simp [fragmentAt_marker]

theorem RunPayloads.lastMarked {M : Nat} {ts : Timestamp} {us : List Bytes} {rs : List RtpRecord}
    (h : RunPayloads M ts true us rs) : LastMarked rs := by
  cases h with
  | whole => exact .singleton rfl
  | stapA => exact .singleton rfl
  | fragments n hM h =>
    obtain ⟨d, -, -, heq⟩ := fragment_eq_append hM h ts true
    refine ⟨_, _, heq, by simp [fragmentAt_marker], fun x hx => ?_⟩
    obtain ⟨j, hj, rfl⟩ := List.mem_map.mp hx
    have hj := List.mem_range.mp hj
    simp [fragmentAt_marker]; omega

theorem RunPayloads.units_ne_nil {M : Nat} {ts : Timestamp} {last : Bool} {us : List Bytes} {rs : List RtpRecord}
    (h : RunPayloads M ts last us rs) : us ≠ [] := by
  cases h <;> simp

theorem FramePayloads.of_nil {M : Nat} {ts : Timestamp} {nalus : List Bytes} {out : List RtpRecord}
    (h : FramePayloads M ts nalus out) (hnil : nalus = []) : out = [] := by
  cases h with
  | nil => rfl
  | run h _ => exact absurd (List.append_eq_nil_iff.mp hnil).1 h.units_ne_nil

theorem FramePayloads.lastMarked {M : Nat} {ts : Timestamp} {nalus : List Bytes} {out : List RtpRecord}
    (h : FramePayloads M ts nalus out) (hne : nalus ≠ []) : LastMarked out := by
  induction h with
  | nil => exact absurd rfl hne
  | @run us rest rs out h more ih =>
    cases rest with
    | nil =>
      rw [more.of_nil rfl, List.append_nil]
      exact h.lastMarked
    | cons n tail => exact (ih (by simp)).append h.unmarked

/-! ### `pack` in mode 1 -/

/-- A Mode-1 `pack` that completes has pushed the payloads of its frame and nothing else on RTP_OUT. -/
theorem exec_pack_mode1_next {ts : Timestamp} {s t : State} (hm : s.mode = 1) (h : exec (.pack ts) s = .next t) :
    ∃ recs, FramePayloads s.maxPayloadSize.toNat ts s.naluIn recs ∧ t.rtpOut = s.rtpOut ++ recs := by
  obtain ⟨hl, -⟩ := execPack_next h
  rw [exec_pack_of_mode1 ts hl hm] at h
  obtain ⟨-, recs, hrecs, -, rfl⟩ := packCommit_next h
  exact ⟨recs, mode1Records_framePayloads hrecs, rfl⟩

theorem exec_pack_mode0_next {ts : Timestamp} {s t : State} (hm : s.mode = 0) (h : exec (.pack ts) s = .next t) :
    t.rtpOut = s.rtpOut ++ mode0Records ts s.naluIn := by
  obtain ⟨hl, -⟩ := execPack_next h
  rw [exec_pack_of_mode0 ts hl hm] at h
  obtain ⟨-, recs, hrecs, -, rfl⟩ := packCommit_next h
  cases hrecs
  rfl

/-- A Mode-1 `pack` whose payloads exist and fit the ports completes (R91, R88). -/
theorem exec_pack_mode1_of_records {ts : Timestamp} {s : State} {recs : List RtpRecord} (hl : s.live = true) (hm : s.mode = 1)
    (hne : ∀ n ∈ s.naluIn, n ≠ []) (hrecs : mode1Records s.maxPayloadSize.toNat s.stapAAllowed ts s.naluIn = some recs)
    (hin : ∀ n ∈ s.naluIn, s.caps.PortAccepts n.length) (hout : ∀ r ∈ recs, s.caps.PortAccepts r.bytes.length) :
    exec (.pack ts) s = .next { s with naluIn := [], rtpOut := s.rtpOut ++ recs } := by
  rw [exec_pack_of_mode1 ts hl hm, runPackMode1, hrecs, packCommit_of_admits [] hne ((packAdmits_iff ..).mpr ⟨hin, hout⟩)]
  simp [pushEvents, emitRecords, drainNaluIn]

/-! ### The statements -/

/-- Settles O21: the sizes of the payloads of a frame. -/
theorem mode1PayloadsFitTheBudget : Obligations.Mode1PayloadsFitTheBudget := by
  unfold Obligations.Mode1PayloadsFitTheBudget
  intro ts s t hm h
  obtain ⟨recs, hframe, hout⟩ := exec_pack_mode1_next hm h
  exact ⟨recs, hout, fun r hr => (hframe.length_le r hr).1, fun hus r hr => (hframe.length_le r hr).2 hus⟩

/-- Settles O22: in both modes the payloads of a frame with a unit end in the marked one. -/
theorem exactlyTheLastPayloadIsMarked : Obligations.ExactlyTheLastPayloadIsMarked := by
  unfold Obligations.ExactlyTheLastPayloadIsMarked
  intro ts s t hm h
  obtain ⟨recs, hout, hmarked, hnil⟩ : ∃ recs, t.rtpOut = s.rtpOut ++ recs
      ∧ (s.naluIn ≠ [] → LastMarked recs) ∧ (s.naluIn = [] → recs = []) := by
    rcases hm with hm | hm
    · exact ⟨_, exec_pack_mode0_next hm h, mode0Records_lastMarked ts, fun hnil => by rw [hnil]; rfl⟩
    · obtain ⟨recs, hframe, hout⟩ := exec_pack_mode1_next hm h
      exact ⟨recs, hout, hframe.lastMarked, hframe.of_nil⟩
  refine ⟨fun hne => ?_, fun he => by rw [hout, hnil he, List.append_nil]⟩
  obtain ⟨init, r, rfl, hr, hinit⟩ := hmarked hne
  exact ⟨init, r, by rw [hout, List.append_assoc], hr, hinit⟩

/-- Settles O26: a lone long unit leaves as its fragments, whose count, headers, lengths and data are known. -/
theorem longUnitIsFragmented : Obligations.LongUnitIsFragmented := by
  unfold Obligations.LongUnitIsFragmented
  intro ts s n hl hm hin hM hn hport
  obtain ⟨htwo, hlow, hhigh⟩ := fragmentCount_spec hM hn
  have hne : n ≠ [] := List.ne_nil_of_length_pos (by omega)
  refine ⟨fragment s.maxPayloadSize.toNat ts n true, ?_, by simpa using htwo, by simpa using hlow, by simpa using hhigh,
    fragment_data hM hn ts true, fun j r hr => ?_⟩
  · refine exec_pack_mode1_of_records hl hm (by simpa [hin] using hne) (by rw [hin, mode1Records_of_long hM hn])
      (by simpa [hin] using hport) fun r hr m hmax => ?_
    have hr := length_le_of_mem_fragment hM hr
    have hn := hport m hmax
    omega
  · obtain ⟨hj, rfl⟩ := fragment_getElem? hr
    rw [fragment_length, fragmentAt_length]
    refine ⟨rfl, by simp [fragmentAt_marker], by simp [fragmentAt_bytes, fuHdr_eq_fuHeaderByte],
      fun hmid => ?_, fun hend => ?_⟩
    · have hfull := Nat.mul_le_mul_right (s.maxPayloadSize.toNat - 2)
        (show j + 1 ≤ fragmentCount s.maxPayloadSize.toNat n.length - 1 by omega)
      rw [Nat.add_mul] at hfull
      omega
    · rw [← hend, Nat.add_sub_cancel] at hlow
      omega

/-- Settles O27: the loop without aggregation sends each unit directly, and nothing it sends is longer than a unit. -/
theorem aggregationOffSendsEveryUnitDirectly : Obligations.AggregationOffSendsEveryUnitDirectly := by
  unfold Obligations.AggregationOffSendsEveryUnitDirectly
  intro ts s hl hm hoff hin
  simp only [imp_and, forall_and] at hin
  obtain ⟨hne, hport, hfit⟩ := hin
  refine exec_pack_mode1_of_records hl hm hne (by rw [hoff]; exact mode1Records_off hfit ts) hport fun r hr m hmax => ?_
  obtain ⟨ds, hds, hr⟩ := List.mem_flatten.mp hr
  obtain ⟨i, hi, rfl⟩ := List.mem_mapIdx.mp hds
  have hn := List.getElem_mem hi
  exact (length_le_of_mem_directPayloads (hfit _ hn) hr).trans (hport _ hn m hmax)

/-- Settles O28: the frame has no payloads, and R87 does not apply. -/
theorem fragmentingBelowThreeIsRefused : Obligations.FragmentingBelowThreeIsRefused := by
  unfold Obligations.FragmentingBelowThreeIsRefused
  intro ts s n hl hm hM hne hmem hn
  have hany : ¬ s.naluIn.any List.isEmpty = true := fun h => hne [] (by simpa using h) rfl
  rw [exec_pack_of_mode1 ts hl hm, runPackMode1, mode1Records_eq_none hM hne hmem hn]
  exact if_neg hany

end Sys2Proof.Machine
end

-- ==== Proofs of the family 41_pack_mode1: the round trip ====
section
/-! PROOF. The payloads of a Mode-1 frame, fed in order to an Idle receiver, give the units back (R108). Each run of units is taken by
the receiver in one of three ways, one for each way in which it left the packetizer. -/

namespace Sys2Proof.Machine

/-! ### Runs of the machine that deliver nothing before their last step -/

theorem core_run_succ {s t : State} (h : step s = .next t) (k : Nat) :
    Host.Core.run Sys2Proof.core (k + 1) s = Host.Core.run Sys2Proof.core k t := by
  have hstep : Sys2Proof.core.step s = .next t := h
  simp only [Host.Core.run, hstep]

theorem core_run_add {k : Nat} {s t : State} (h : Host.Core.run Sys2Proof.core k s = .next t) (m : Nat) :
    Host.Core.run Sys2Proof.core (k + m) s = Host.Core.run Sys2Proof.core m t := by
  induction k generalizing s with
  | zero => cases h; rw [Nat.zero_add]
  | succ k ih =>
    rw [Nat.add_right_comm]
    simp only [Host.Core.run] at h ⊢
    split at h
    · exact ih h
    · cases h
    · cases h

/-- `k` steps lead from `s` to `t`, and no step but the last one touches NALU_OUT. -/
structure DeliversLast (k : Nat) (s t : State) : Prop where
  reaches : Host.Core.run Sys2Proof.core k s = .next t
  silent : ∀ i, i < k → ∃ u : State, Host.Core.run Sys2Proof.core i s = .next u ∧ u.naluOut = s.naluOut

theorem DeliversLast.refl (s : State) : DeliversLast 0 s s := ⟨rfl, fun i hi => absurd hi (Nat.not_lt_zero i)⟩

theorem DeliversLast.step {s t : State} (h : step s = .next t) : DeliversLast 1 s t where
  reaches := core_run_succ h 0
  silent i hi := ⟨s, by rw [Nat.lt_one_iff.mp hi]; rfl, rfl⟩

/-- Two such runs after each other are one if the first delivers nothing at all. -/
theorem DeliversLast.trans {k m : Nat} {s t u : State} (h : DeliversLast k s t) (hout : t.naluOut = s.naluOut)
    (h' : DeliversLast m t u) : DeliversLast (k + m) s u where
  reaches := (core_run_add h.reaches m).trans h'.reaches
  silent i hi := by
    by_cases hik : i < k
    · exact h.silent i hik
    · obtain ⟨v, hv, hvout⟩ := h'.silent (i - k) (by omega)
      refine ⟨v, ?_, hvout.trans hout⟩
      rw [← hv, ← core_run_add h.reaches, Nat.add_sub_cancel' (by omega)]

/-! ### A receiver with payloads queued -/

/-- `s` with these payloads at the front of RTP_IN and an `unpack` word for each of them at the front of the command port. -/
def feed (a : BitVec 32) (rs : List RtpRecord) (s : State) : State :=
  { s with rtpIn := rs ++ s.rtpIn, cmdIn := List.replicate rs.length (commandWord 5 a) ++ s.cmdIn }

@[simp] theorem feed_nil (a : BitVec 32) (s : State) : feed a [] s = s := rfl

@[simp] theorem feed_naluOut (a : BitVec 32) (rs : List RtpRecord) (s : State) : (feed a rs s).naluOut = s.naluOut := rfl

/-- Steps 1, 3 and 4 of `unpack` on one payload (R111). -/
def receive (r : RtpRecord) (s : State) : Result :=
  thenNext (unpackPayload r.bytes (preCheck r.ts s)) (markerStep r.marker r.ts)

theorem decodeCommand_unpack (a : BitVec 32) : decodeCommand (commandWord 5 a) = .unpack a := by
  simp [decodeCommand]

/-- A step takes one `unpack` word and one payload and handles it (R40, R111). -/
theorem step_feed {s : State} (hl : s.live = true) (a : BitVec 32) (r : RtpRecord) (rs : List RtpRecord) :
    step (feed a (r :: rs) s) = receive r (feed a rs s) := by
  calc step (feed a (r :: rs) s)
      = exec (decodeCommand (commandWord 5 a)) { feed a (r :: rs) s with cmdIn := (feed a rs s).cmdIn } := rfl
    _ = execUnpack a { feed a (r :: rs) s with cmdIn := (feed a rs s).cmdIn } := by rw [decodeCommand_unpack]; rfl
    _ = receive r (feed a rs s) := whileLive_live _ hl

/-! ### A receiver that can take the next run of a frame -/

/-- R108 (e), from the first record of a frame to the last: a live, Idle receiver without storage limits, at which a payload stamped
`ts` flushes nothing in step 1. -/
structure Ready (ts : Timestamp) (s : State) : Prop where
  live : s.live = true
  caps : s.caps = Capacities.unbounded
  idle : s.reasm = none
  settled : ts = s.lastTimestamp ∨ s.pending = []

/-- The receiver once it has taken the units of one run: they are pending, or delivered behind what was pending if the run ended its
frame. -/
def afterRun (us : List Bytes) (last : Bool) (ts : Timestamp) (s : State) : State :=
  markerStep last ts (pushPending us (setLastTimestamp ts s))

theorem Ready.feed {ts : Timestamp} {s : State} (h : Ready ts s) (a : BitVec 32) (rs : List RtpRecord) :
    Ready ts (feed a rs s) := ⟨h.live, h.caps, h.idle, h.settled⟩

/-- Taking a run looks neither at the payloads nor at the commands that still wait. -/
theorem afterRun_feed (us : List Bytes) (last : Bool) (ts : Timestamp) (a : BitVec 32) (rs : List RtpRecord) (s : State) :
    afterRun us last ts (feed a rs s) = feed a rs (afterRun us last ts s) := by
  cases last <;> rfl

theorem Ready.afterRun {ts : Timestamp} {s : State} (h : Ready ts s) (us : List Bytes) :
    Ready ts (afterRun us false ts s) := ⟨h.live, h.caps, h.idle, .inl rfl⟩

/-- Step 1 on a ready receiver delivers nothing; at most it notes the timestamp (R113). -/
theorem Ready.preCheck_eq {ts : Timestamp} {s : State} (h : Ready ts s) : preCheck ts s = setLastTimestamp ts s := by
  rcases preCheck_cases ts s with ⟨hts, -, hpre⟩ | ⟨hts, hpre⟩
  · have hpend : s.pending = [] := h.settled.resolve_left hts
    have hflush : flush s = s := by cases s; cases hpend; simp [flush]
    rw [hpre, hflush]
  · have hts : ts = s.lastTimestamp := hts.resolve_right (not_not.mpr h.idle)
    rw [hpre, hts]; rfl

/-! ### The payloads that are no fragment (R116, R127) -/

theorem dropReassembly_of_idle {s : State} (h : s.reasm = none) : dropReassembly s = s := by simp [dropReassembly, h]

theorem classOf_single {h : Byte} (h24 : nalType h ≠ 24) (h28 : nalType h ≠ 28) : classOf h = .single := by
  rw [classOf, if_neg h24, if_neg h28]

/-- A unit sent whole is the newest pending unit of an Idle receiver (R127). -/
theorem receive_whole {n : Bytes} (hne : n ≠ []) (h24 : nalType (firstByte n) ≠ 24) (h28 : nalType (firstByte n) ≠ 28)
    {ts : Timestamp} {s : State} (hs : Ready ts s) (last : Bool) :
    receive ⟨n, ts, last⟩ s = .next (afterRun [n] last ts s) := by
  obtain ⟨b, body, rfl⟩ := List.exists_cons_of_ne_nil hne
  have hclass : classOf b = .single := classOf_single h24 h28
  have hidle : (setLastTimestamp ts s).reasm = none := hs.idle
  simp [receive, hs.preCheck_eq, unpackPayload, hclass, unpackSingle, hs.caps, dropReassembly_of_idle hidle, thenNext, afterRun]

/-- The walk of UNPACK_STAP_A splits a STAP-A payload into the units it was built from (R116). -/
theorem stapWalk_members (us : List Bytes) (hus : ∀ u ∈ us, u.length < 65536) (fuel : Nat)
    (hfuel : (us.flatMap stapMember).length ≤ fuel) : stapWalk fuel (us.flatMap stapMember) = (us, false) := by
  induction us generalizing fuel with
  | nil => simp
  | cons u us ih =>
    simp only [List.flatMap_cons, List.length_append, stapMember_length] at hfuel
    obtain ⟨fuel, rfl⟩ : ∃ k, fuel = k + 1 := ⟨fuel - 1, by omega⟩
    have hread := readBe16_be16 u.length (hus u List.mem_cons_self)
    have hwalk := stapWalk_member fuel _ _ u (us.flatMap stapMember) hread
    rw [ih (fun v hv => hus v (List.mem_cons_of_mem _ hv)) fuel (by omega)] at hwalk
    simpa [stapMember, be16] using hwalk

/-- The units of a STAP-A payload are the newest pending units of an Idle receiver, in order (R116). -/
theorem receive_stapPayload {p : Bytes} {qs : List Bytes} (hsize : ∀ u ∈ p :: qs, u.length < 65536) {ts : Timestamp} {s : State}
    (hs : Ready ts s) (last : Bool) :
    receive ⟨stapPayload p qs, ts, last⟩ s = .next (afterRun (p :: qs) last ts s) := by
  have hclass : classOf (hdr (nalNri (firstByte p)) 24) = .stapA := by simp [classOf]
  have hwalk : stapWalk (stapPayload p qs).length ((stapPayload p qs).drop 1) = (p :: qs, false) :=
    stapWalk_members (p :: qs) hsize _ (Nat.le_succ _)
  have hidle : (setLastTimestamp ts s).reasm = none := hs.idle
  have hunpack : unpackPayload (stapPayload p qs) (setLastTimestamp ts s)
      = .next (pushPending (p :: qs) (setLastTimestamp ts s)) := by
    calc unpackPayload (stapPayload p qs) (setLastTimestamp ts s)
        = unpackStapA (stapPayload p qs) (setLastTimestamp ts s) := by simp only [unpackPayload, stapPayload, hclass]
      _ = .next (pushPending (p :: qs) (setLastTimestamp ts s)) := by
        simp only [unpackStapA, hwalk, dropReassembly_of_idle hidle]
        simp [hs.caps]
  simp [receive, hs.preCheck_eq, hunpack, thenNext, afterRun]

/-! ### The fragments of one unit (R121 to R125) -/

/-- Without storage limits UNPACK_FU_A is never refused (R120, R44). -/
theorem runFuA_unbounded {s : State} (h : s.caps = Capacities.unbounded) (start stop : Bool) (header : Byte) (data : Bytes) :
    runFuA start stop header data s =
      let first := if start then fuAStartPart header data s else fuAContinuePart data s
      .next (if stop then fuAEndPart first else first) := by
  cases stop <;> simp [runFuA, h]

/-- A fragment as the receiver reads it: its S and E bits, the header byte of its unit, its data (R120, R64). -/
theorem unpackPayload_fragmentAt {n : Bytes} (hF : nalF (firstByte n) = 0) (M : Nat) (ts : Timestamp) (last : Bool) (c j : Nat)
    (s : State) :
    unpackPayload (fragmentAt M ts n last c j).bytes s =
      runFuA (decide (j = 0)) (decide (j + 1 = c)) (firstByte n) (fragmentData M n j) s := by
  have hclass : classOf (hdr (nalNri (firstByte n)) 28) = .fuA := by simp [classOf]
  simp only [fragmentAt_bytes, unpackPayload, hclass, unpackFuA, fuStart_fuHdr, fuEnd_fuHdr, fuType_fuHdr, nalNri_hdr,
    hdr_of_fields _ hF]

/-- What a receiver without storage limits does with fragment `j` of `c` (R111, R120). -/
theorem receive_fragmentAt {n : Bytes} (hF : nalF (firstByte n) = 0) {s : State} (hcaps : s.caps = Capacities.unbounded)
    (M : Nat) (ts : Timestamp) (last : Bool) (c j : Nat) :
    receive (fragmentAt M ts n last c j) s =
      let first := if j = 0 then fuAStartPart (firstByte n) (fragmentData M n j) (preCheck ts s)
        else fuAContinuePart (fragmentData M n j) (preCheck ts s)
      .next (if j + 1 = c then markerStep last ts (fuAEndPart first) else first) := by
  have hpre : (preCheck ts s).caps = Capacities.unbounded := (preCheck_caps ts s).trans hcaps
  have hrecord : receive (fragmentAt M ts n last c j) s
      = thenNext (unpackPayload (fragmentAt M ts n last c j).bytes (preCheck ts s))
          (markerStep (decide (j + 1 = c) && last) ts) := rfl
  rw [hrecord, unpackPayload_fragmentAt hF, runFuA_unbounded hpre]
  by_cases hend : j + 1 = c <;> simp [hend, thenNext, markerStep_false]

/-- The receiver once it has taken the first `j` fragments of `n`, but not the last: it holds the unit up to where they end. -/
def rebuilding (M : Nat) (ts : Timestamp) (n : Bytes) (j : Nat) (s : State) : State :=
  setReasm (some (n.take (1 + j * (M - 2)))) (setLastTimestamp ts s)

/-- During a reassembly step 1 does nothing (R113). -/
theorem preCheck_rebuilding (M : Nat) (ts : Timestamp) (n : Bytes) (j : Nat) (s : State) :
    preCheck ts (rebuilding M ts n j s) = rebuilding M ts n j s := by
  simp [preCheck, rebuilding]

/-- One fragment's data behind what the fragments before it gave. -/
theorem take_append_fragmentData (M : Nat) (n : Bytes) (j : Nat) :
    n.take (1 + j * (M - 2)) ++ fragmentData M n j = n.take (1 + (j + 1) * (M - 2)) := by
  rw [fragmentData, List.drop_drop, ← List.take_add, Nat.add_mul, Nat.one_mul, Nat.add_assoc]

/-- The continuation part during a reassembly (R123). -/
theorem fuAContinuePart_rebuilding (M : Nat) (ts : Timestamp) (n : Bytes) (j : Nat) (s : State) :
    fuAContinuePart (fragmentData M n j) (rebuilding M ts n j s) = rebuilding M ts n (j + 1) s := by
  rw [rebuilding, rebuilding, ← take_append_fragmentData]
  rfl

/-- The Start fragment begins the unit (R121). -/
theorem receive_firstFragment {n : Bytes} (hne : n ≠ []) (hF : nalF (firstByte n) = 0) {ts : Timestamp} {s : State}
    (hs : Ready ts s) (M : Nat) (last : Bool) {c : Nat} (hc : 1 < c) :
    receive (fragmentAt M ts n last c 0) s = .next (rebuilding M ts n 1 s) := by
  obtain ⟨b, body, rfl⟩ := List.exists_cons_of_ne_nil hne
  rw [receive_fragmentAt hF hs.caps, hs.preCheck_eq]
  simp [Nat.ne_of_lt hc, fuAStartPart, hs.idle, rebuilding, fragmentData, firstByte, Nat.add_comm 1]

/-- A middle fragment extends the unit (R123). -/
theorem receive_middleFragment {n : Bytes} (hF : nalF (firstByte n) = 0) {s : State} (hcaps : s.caps = Capacities.unbounded)
    (M : Nat) (ts : Timestamp) (last : Bool) {c j : Nat} (hj : j ≠ 0) (hc : j + 1 < c) :
    receive (fragmentAt M ts n last c j) (rebuilding M ts n j s) = .next (rebuilding M ts n (j + 1) s) := by
  rw [receive_fragmentAt hF (show (rebuilding M ts n j s).caps = _ from hcaps), preCheck_rebuilding, fuAContinuePart_rebuilding]
  simp [hj, Nat.ne_of_lt hc]

/-- The End fragment completes the unit, which is then pending (R125). -/
theorem receive_lastFragment {n : Bytes} (hF : nalF (firstByte n) = 0) {ts : Timestamp} {s : State} (hs : Ready ts s)
    (M : Nat) (last : Bool) {d : Nat} (hd : d ≠ 0) (hend : n.length ≤ 1 + (d + 1) * (M - 2)) :
    receive (fragmentAt M ts n last (d + 1) d) (rebuilding M ts n d s) = .next (afterRun [n] last ts s) := by
  have hidle : setReasm none (setLastTimestamp ts s) = setLastTimestamp ts s := by
    rw [← show (setLastTimestamp ts s).reasm = none from hs.idle]; rfl
  have hunit : fuAEndPart (rebuilding M ts n (d + 1) s) = pushPending [n] (setReasm none (setLastTimestamp ts s)) := by
    rw [rebuilding, List.take_of_length_le hend]; rfl
  rw [receive_fragmentAt hF (show (rebuilding M ts n d s).caps = _ from hs.caps), preCheck_rebuilding, fuAContinuePart_rebuilding]
  simp [hd, hunit, hidle, afterRun]

/-! ### From payloads to runs of the machine -/

theorem deliversLast_record {a : BitVec 32} {r : RtpRecord} {rs : List RtpRecord} {s t : State} (hl : s.live = true)
    (h : receive r (feed a rs s) = .next (feed a rs t)) : DeliversLast 1 (feed a (r :: rs) s) (feed a rs t) :=
  .step ((step_feed hl a r rs).trans h)

/-- A payload that ends the payloads of its run. -/
theorem deliversLast_runEnd {a : BitVec 32} {r : RtpRecord} {rs : List RtpRecord} {s t : State} {us : List Bytes} {last : Bool}
    {ts : Timestamp} (hl : s.live = true) (h : receive r (feed a rs s) = .next (afterRun us last ts (feed a rs t))) :
    DeliversLast 1 (feed a (r :: rs) s) (feed a rs (afterRun us last ts t)) :=
  deliversLast_record hl (h.trans (congrArg _ (afterRun_feed us last ts a rs t)))

/-- The fragments of a unit are taken one by one, and the unit is there after the last (R121 to R125, R137). -/
theorem deliversLast_fragment {M : Nat} {n : Bytes} (hM : 3 ≤ M) (hn : M < n.length) (hF : nalF (firstByte n) = 0)
    {ts : Timestamp} {s : State} (hs : Ready ts s) (last : Bool) (a : BitVec 32) (rs : List RtpRecord) :
    DeliversLast (fragment M ts n last).length (feed a (fragment M ts n last ++ rs) s) (feed a rs (afterRun [n] last ts s)) := by
  have hne : n ≠ [] := List.ne_nil_of_length_pos (by omega)
  obtain ⟨-, -, hall⟩ := fragmentCount_spec hM hn
  obtain ⟨d, hcount, hd, heq⟩ := fragment_eq_append hM hn ts last
  rw [hcount] at hall
  have hbefore : ∀ j, 1 ≤ j → j ≤ d → ∀ rs,
      DeliversLast j (feed a ((List.range j).map (fragmentAt M ts n last (d + 1)) ++ rs) s)
        (feed a rs (rebuilding M ts n j s)) := by
    intro j hj
    induction j, hj using Nat.le_induction with
    | base => exact fun _ rs => deliversLast_record hs.live (receive_firstFragment hne hF (hs.feed a rs) M last (by omega))
    | succ j hj ih =>
      intro hjd rs
      rw [List.range_succ, List.map_append, List.append_assoc]
      exact (ih (by omega) _).trans rfl (deliversLast_record hs.live
        (receive_middleFragment hF (hs.feed a rs).caps M ts last (by omega) (by omega)))
  rw [fragment_length, hcount, heq, List.append_assoc]
  exact (hbefore d hd le_rfl _).trans rfl (deliversLast_runEnd (s := rebuilding M ts n d s) hs.live
    (receive_lastFragment hF (hs.feed a rs) M last (by omega) (by omega)))

/-- R108 (a), (c) and (d): a unit that comes out of the receiver as it went into the packetizer. -/
structure Survives (M : Nat) (n : Bytes) : Prop where
  nonempty : n ≠ []
  notStapA : nalType (firstByte n) ≠ 24
  notFuA : nalType (firstByte n) ≠ 28
  longHasF0 : M < n.length → nalF (firstByte n) = 0

/-- The payloads of one run give the receiver the units of the run. -/
theorem RunPayloads.deliversLast {M : Nat} (hM : M < 65536) {ts : Timestamp} {last : Bool} {us : List Bytes} {rs : List RtpRecord}
    (h : RunPayloads M ts last us rs) (hus : ∀ n ∈ us, Survives M n) {s : State} (hs : Ready ts s) (a : BitVec 32)
    (more : List RtpRecord) :
    DeliversLast rs.length (feed a (rs ++ more) s) (feed a more (afterRun us last ts s)) := by
  cases h with
  | whole n h =>
    obtain ⟨hne, h24, h28, -⟩ := hus n List.mem_cons_self
    exact deliversLast_runEnd hs.live (receive_whole hne h24 h28 (hs.feed a more) last)
  | stapA p qs h =>
    exact deliversLast_runEnd hs.live
      (receive_stapPayload (fun u hu => ((length_lt_stapPayload hu).trans h).trans hM) (hs.feed a more) last)
  | fragments n hM3 h => exact deliversLast_fragment hM3 h ((hus n List.mem_cons_self).longHasF0 h) hs last a more

/-- The payloads of a frame give the receiver the units of the frame, all of them with the last payload. -/
theorem FramePayloads.deliversLast {M : Nat} (hM : M < 65536) {ts : Timestamp} {nalus : List Bytes} {out : List RtpRecord}
    (h : FramePayloads M ts nalus out) (hne : nalus ≠ []) (hnalus : ∀ n ∈ nalus, Survives M n) {s : State} (hs : Ready ts s)
    (a : BitVec 32) : DeliversLast out.length (feed a out s) (afterRun nalus true ts s) := by
  induction h generalizing s with
  | nil => exact absurd rfl hne
  | @run us rest rs out h more ih =>
    have hrun := h.deliversLast hM (fun n hn => hnalus n (List.mem_append_left _ hn)) hs a out
    cases rest with
    | nil =>
      cases more.of_nil rfl
      simpa [lastMarker] using hrun
    | cons n tail =>
      have hrest := ih (by simp) (fun u hu => hnalus u (List.mem_append_right _ hu)) (hs.afterRun us)
      have hjoin : afterRun (n :: tail) true ts (afterRun us false ts s) = afterRun (us ++ n :: tail) true ts s := by
        simp [afterRun, markerStep, pushPending, setLastTimestamp, flush]
      rw [List.length_append, ← hjoin]
      exact hrun.trans rfl hrest

/-! ### The statement -/

theorem portAccepts_of_unbounded {c : Capacities} (h : c = Capacities.unbounded) (k : Nat) : c.PortAccepts k :=
  (admitsLength_iff c k).mp (h ▸ admitsLength_unbounded k)

/-- Settles O54: the payloads of the frame exist because M is 3 or more, and a receiver without a unit pending is ready for them. -/
theorem packThenUnpackRoundTrip : Obligations.PackThenUnpackRoundTrip := by
  unfold Obligations.PackThenUnpackRoundTrip
  intro ts a tx rx tail cmds hl hm hM hcaps hne hunits hrl hrcaps hridle hrpend
  have hsurvive : ∀ n ∈ tx.naluIn, Survives tx.maxPayloadSize.toNat n := fun n hn =>
    let ⟨h0, h24, h28, hF⟩ := hunits n hn
    ⟨h0, h24, h28, hF⟩
  obtain ⟨recs, hrecs⟩ := mode1Loop_isSome (nalus := tx.naluIn) (fun _ _ => .inl hM) tx.stapAAllowed ts none
  refine ⟨recs, exec_pack_mode1_of_records hl hm (fun n hn => (hsurvive n hn).nonempty) hrecs
    (fun _ _ => portAccepts_of_unbounded hcaps _) (fun _ _ => portAccepts_of_unbounded hcaps _), ?_⟩
  have hready : Ready ts { rx with rtpIn := tail, cmdIn := cmds } := ⟨hrl, hrcaps, hridle, .inr hrpend⟩
  obtain ⟨hreach, hsilent⟩ :=
    (mode1Records_framePayloads hrecs).deliversLast tx.maxPayloadSize.isLt hne hsurvive hready a
  refine ⟨hreach.trans ?_, hsilent⟩
  simp [afterRun, markerStep, pushPending, setLastTimestamp, flush, hrpend]

end Sys2Proof.Machine
end

-- ==== Proofs of the family 42_unpack: what one unpack does ====
section
/-! PROOF. What `unpack` and its rows do to the state (R110 to R134): an equation for each step of R111 and for each path of step 3,
as long as it stays within the capacities; then the statements. -/

namespace Sys2Proof.Machine

/-! ### The payload that `unpack` takes (R110, R111) -/

theorem exec_unpack_of_record {s : State} {r : RtpRecord} {rest : List RtpRecord} (hl : s.live = true)
    (hin : s.rtpIn = r :: rest) (a : BitVec 32) : exec (.unpack a) s = receive r { s with rtpIn := rest } :=
  (whileLive_live _ hl).trans (by rw [hin]; rfl)

theorem exec_unpack_of_empty {s : State} (hl : s.live = true) (hin : s.rtpIn = []) (a : BitVec 32) :
    exec (.unpack a) s = .refused .noPayload :=
  (whileLive_live _ hl).trans (by rw [hin])

/-- The condition under which step 1 acts: a new timestamp and no reassembly in progress (R113). -/
def preCheckActs (ts : Timestamp) (s : State) : Bool := decide (ts ≠ s.lastTimestamp) && s.reasm.isNone

/-- Step 1 field by field (R113). -/
theorem preCheck_eq (ts : Timestamp) (s : State) :
    preCheck ts s = { s with
      naluOut := s.naluOut ++ (if preCheckActs ts s then s.pending else [])
      pending := if preCheckActs ts s then [] else s.pending
      lastTimestamp := if preCheckActs ts s then ts else s.lastTimestamp } := by
  rcases preCheck_cases ts s with ⟨hts, hidle, hpre⟩ | ⟨hold, hpre⟩
  · have hacts : preCheckActs ts s = true := by simp [preCheckActs, hts, hidle]
    simp [hpre, hacts, setLastTimestamp, flush]
  · have hacts : preCheckActs ts s = false := by
      rcases hold with hts | hreasm
      · simp [preCheckActs, hts]
      · simp [preCheckActs, Option.isSome_iff_ne_none, hreasm]
    simp [hpre, hacts]

/-- Step 4 field by field (R129). -/
theorem markerStep_eq (m : Bool) (ts : Timestamp) (s : State) :
    markerStep m ts s = { s with
      naluOut := s.naluOut ++ (if m then s.pending else [])
      pending := if m then [] else s.pending
      lastTimestamp := if m then ts else s.lastTimestamp } := by
  cases m with
  | false => simp [markerStep_false]
  | true => rfl

/-! ### The capacities (R44) -/

theorem pendingAdmits_of_holds {caps : Capacities} {q units : List Bytes} (hport : ∀ u ∈ units, caps.PortAccepts u.length)
    (hpend : caps.PendingHolds (q ++ units)) : pendingAdmits caps q units = true := by
  obtain ⟨hentries, hbytes⟩ := hpend
  have hall : units.all (fun u => admitsLength caps u.length) = true :=
    List.all_eq_true.mpr fun u hu => (admitsLength_iff caps _).mpr (hport u hu)
  have hcount := (withinCap_iff caps.pendingEntries _).mpr hentries
  have hsize : withinCap caps.pendingBytes (totalBytes (q ++ units)) = true := (withinCap_iff _ _).mpr hbytes
  simp only [pendingAdmits, hall, hcount, hsize, Bool.and_self, Bool.or_true]

theorem reasmAdmits_of_holds {caps : Capacities} {r : Option Bytes} (h : ∀ u ∈ r, caps.ReasmHolds u.length) :
    reasmAdmits caps r = true := by
  cases r with
  | none => rfl
  | some u => exact (withinCap_iff ..).mpr (h u rfl)

/-! ### A single-NAL payload (R127, R128) -/

theorem unpackSingle_of_holds {b : Bytes} {s : State} (hport : s.caps.PortAccepts b.length)
    (hpend : s.caps.PendingHolds (s.pending ++ [b])) :
    unpackSingle b s = .next { s with
      reasm := none
      pending := s.pending ++ [b]
      evtOut := s.evtOut ++ (if s.reasm.isSome then [codeFuADiscontinued] else []) } := by
  have hadmits := pendingAdmits_of_holds (by simpa using hport) hpend
  rw [unpackSingle, (admitsLength_iff ..).mpr hport, hadmits, dropReassembly_eq]
  rfl

theorem unpackPayload_of_single {h : Byte} (h24 : nalType h ≠ 24) (h28 : nalType h ≠ 28) (body : Bytes) (s : State) :
    unpackPayload (h :: body) s = unpackSingle (h :: body) s := by
  simp only [unpackPayload, classOf_single h24 h28]

/-! ### A STAP-A payload (R116 to R119) -/

/-- R117: one stray byte, or a size that announces more bytes than are left. -/
def MalformedTail (bad : Bytes) : Prop :=
  bad.length = 1 ∨ ∃ (hi lo : Byte) (left : Bytes), bad = hi :: lo :: left ∧ left.length < hi.toNat * 256 + lo.toNat

theorem stapWalk_malformedTail {bad : Bytes} (h : MalformedTail bad) {fuel : Nat} (hfuel : bad.length ≤ fuel) :
    stapWalk fuel bad = ([], true) := by
  rcases h with hone | ⟨hi, lo, left, rfl, hshort⟩
  · obtain ⟨x, rfl⟩ := List.length_eq_one_iff.mp hone
    exact stapWalk_one fuel x
  · obtain ⟨k, rfl⟩ : ∃ k, fuel = k + 1 := ⟨fuel - 1, by simp at hfuel; omega⟩
    exact stapWalk_overrun k hi lo left hshort

/-- The walk keeps the members in front of a malformed tail (R117). -/
theorem stapWalk_members_malformedTail {us : List Bytes} (hus : ∀ u ∈ us, u.length < 65536) {bad : Bytes}
    (hbad : MalformedTail bad) {fuel : Nat} (hfuel : (us.flatMap stapMember ++ bad).length ≤ fuel) :
    stapWalk fuel (us.flatMap stapMember ++ bad) = (us, true) := by
  induction us generalizing fuel with
  | nil => exact stapWalk_malformedTail hbad hfuel
  | cons u us ih =>
    simp only [List.flatMap_cons, List.length_append, stapMember_length] at hfuel
    obtain ⟨k, rfl⟩ : ∃ k, fuel = k + 1 := ⟨fuel - 1, by omega⟩
    have hrest := ih (fun v hv => hus v (List.mem_cons_of_mem _ hv)) (fuel := k) (by rw [List.length_append]; omega)
    have hread := readBe16_be16 u.length (hus u List.mem_cons_self)
    have hwalk := stapWalk_member k _ _ u (us.flatMap stapMember ++ bad) hread
    rw [hrest] at hwalk
    simpa [stapMember, be16] using hwalk

theorem length_le_flatMap_stapMember {us : List Bytes} {u : Bytes} (hu : u ∈ us) :
    u.length ≤ (us.flatMap stapMember).length := by
  cases us with
  | nil => cases hu
  | cons p qs => exact Nat.le_of_lt_succ (length_lt_stapPayload hu)

/-- UNPACK_STAP_A within the capacities, once the walk is known. -/
theorem unpackStapA_of_walk {b : Bytes} {us : List Bytes} {malformed : Bool} {s : State}
    (hwalk : stapWalk b.length (b.drop 1) = (us, malformed)) (hport : s.caps.PortAccepts b.length)
    (hlen : ∀ u ∈ us, u.length ≤ b.length) (hpend : s.caps.PendingHolds (s.pending ++ us)) :
    unpackStapA b s = .next { s with
      reasm := none
      pending := s.pending ++ us
      evtOut := s.evtOut ++ (if s.reasm.isSome then [codeFuADiscontinued] else [])
        ++ (if malformed then [codeStapAMalformed] else []) } := by
  have hadmits := pendingAdmits_of_holds (fun u hu m hm => (hlen u hu).trans (hport m hm)) hpend
  rw [unpackStapA, hwalk, (admitsLength_iff ..).mpr hport, hadmits, dropReassembly_eq]
  cases malformed with
  | false => simp [pushPending]
  | true => rfl

/-! ### A fragment (R120 to R126) -/

theorem fuAStartPart_eq (header : Byte) (data : Bytes) (s : State) :
    fuAStartPart header data s = { s with
      reasm := some (header :: data)
      evtOut := s.evtOut ++ (if s.reasm.isSome then [codeFuANestedStart] else []) } := by
  unfold fuAStartPart
  split
  · rfl
  · simp [setReasm]

theorem fuAContinuePart_of_some {s : State} {u : Bytes} (h : s.reasm = some u) (data : Bytes) :
    fuAContinuePart data s = { s with reasm := some (u ++ data) } := by
  simp only [fuAContinuePart, h, setReasm]

theorem fuAContinuePart_of_none {s : State} (h : s.reasm = none) (data : Bytes) :
    fuAContinuePart data s = { s with evtOut := s.evtOut ++ [codeFuANoStart] } := by
  simp only [fuAContinuePart, h, pushEvent]

theorem fuAEndPart_of_some {s : State} {u : Bytes} (h : s.reasm = some u) :
    fuAEndPart s = { s with reasm := none, pending := s.pending ++ [u] } := by
  simp only [fuAEndPart, h, setReasm, pushPending]

theorem fuAEndPart_of_none {s : State} (h : s.reasm = none) : fuAEndPart s = s := by
  simp only [fuAEndPart, h]

/-- UNPACK_FU_A within the capacities: the first part, then the End part where E is set (R120). -/
theorem runFuA_of_holds {start stop : Bool} {header : Byte} {data : Bytes} {s first : State}
    (hfirst : (if start then fuAStartPart header data s else fuAContinuePart data s) = first)
    (hport : s.caps.PortAccepts (data.length + 2)) (hreasm : ∀ u ∈ first.reasm, s.caps.ReasmHolds u.length)
    (hend : stop = true → ∀ u ∈ first.reasm,
      s.caps.PortAccepts u.length ∧ s.caps.PendingHolds (first.pending ++ [u])) :
    runFuA start stop header data s = .next (if stop then fuAEndPart first else first) := by
  rw [runFuA, hfirst, (admitsLength_iff ..).mpr hport, reasmAdmits_of_holds hreasm]
  cases stop with
  | false => rfl
  | true =>
    have hadmits : pendingAdmits s.caps first.pending first.reasm.toList = true := by
      cases hunit : first.reasm with
      | none => rfl
      | some u =>
        obtain ⟨haccepts, hholds⟩ := hend rfl u hunit
        exact pendingAdmits_of_holds (by simpa using haccepts) hholds
    simp [hadmits]

/-! ### What step 3 does to the queues of NAL units (R134) -/

/-- Neither part of a fragment delivers a unit, and the End part alone makes one pending. -/
theorem fuA_firstPart_queues (start : Bool) (header : Byte) (data : Bytes) (s : State) :
    let first := if start then fuAStartPart header data s else fuAContinuePart data s
    first.naluOut = s.naluOut ∧ first.pending = s.pending := by
  cases start with
  | true => simp [fuAStartPart_eq]
  | false =>
    cases h : s.reasm with
    | none => simp [fuAContinuePart_of_none h]
    | some u => simp [fuAContinuePart_of_some h]

theorem fuAEndPart_queues (s : State) : (fuAEndPart s).naluOut = s.naluOut ∧ s.pending <+: (fuAEndPart s).pending := by
  cases h : s.reasm with
  | none => simp [fuAEndPart_of_none h]
  | some u => simp [fuAEndPart_of_some h]

/-- Step 3 delivers nothing, on any of its paths, and only appends to CTX.pending. -/
theorem unpackPayload_queues {b : Bytes} {s t : State} (h : unpackPayload b s = .next t) :
    t.naluOut = s.naluOut ∧ s.pending <+: t.pending := by
  unfold unpackPayload at h
  split at h
  · cases h
  · split at h
    · obtain ⟨-, -, rfl⟩ := unpackStapA_next h
      rw [dropReassembly_eq]
      split <;> simp
    · unfold unpackFuA at h
      split at h
      · obtain ⟨first, hfirst, -, -, hend⟩ := runFuA_next h
        obtain ⟨hout, hpend⟩ := hfirst ▸ fuA_firstPart_queues ..
        rw [← hout, ← hpend]
        rcases hend with ⟨-, -, rfl⟩ | ⟨-, rfl⟩
        · exact fuAEndPart_queues first
        · exact ⟨rfl, List.prefix_rfl⟩
      · cases h
    · obtain ⟨-, -, rfl⟩ := unpackSingle_next h
      simp [dropReassembly_eq]

/-! ### The statements -/

/-- Settles O31: steps 1 and 4 are their equations, and step 3 between them appends the payload. -/
theorem unpackOfASingleNal : Obligations.UnpackOfASingleNal := by
  unfold Obligations.UnpackOfASingleNal
  intro a s r rest h body hl hin hb h24 h28 bd kept queue hport hpend
  have hacts : preCheckActs r.ts { s with rtpIn := rest } = bd := rfl
  have hsingle := unpackSingle_of_holds (b := r.bytes) (s := preCheck r.ts { s with rtpIn := rest })
    (by rw [preCheck_caps]; exact hport) (by rw [preCheck_eq]; exact hpend)
  rw [exec_unpack_of_record hl hin, receive, hb, unpackPayload_of_single h24 h28, ← hb, hsingle, preCheck_eq, hacts, thenNext,
    markerStep_eq]
  simp only [Bool.or_eq_true, ite_or]
  rfl

/-- Settles O33: each of the rows is UNPACK_SINGLE on the payload of its type. -/
theorem singleNalRowsAppendTheWholePayload : Obligations.SingleNalRowsAppendTheWholePayload := by
  unfold Obligations.SingleNalRowsAppendTheWholePayload
  intro f nri rest s hl hport row hrow
  have hexec : exec (row.2 f nri rest) s = runSingleRow row.1 f nri rest s := by
    fin_cases hrow <;> rfl
  intro hpend
  exact hexec.trans ((whileLive_live _ hl).trans (unpackSingle_of_holds hport hpend))

/-- Settles O34: the walk over whole members ends without a malformed tail. -/
theorem stapASplitsIntoItsMembers : Obligations.StapASplitsIntoItsMembers := by
  unfold Obligations.StapASplitsIntoItsMembers
  intro f nri members s hl hsize rest hport hpend
  have hwalk : stapWalk (payloadBytes 24 f nri rest).length rest = (members, false) :=
    stapWalk_members members hsize _ (Nat.le_succ _)
  have hstap := unpackStapA_of_walk hwalk hport
    (fun u hu => (length_le_flatMap_stapMember hu).trans (Nat.le_succ _)) hpend
  exact (whileLive_live _ hl).trans (by simpa [codeFuADiscontinued] using hstap)

/-- Settles O35: the walk keeps the members and then meets the malformed tail. -/
theorem malformedStapAKeepsTheMembersBefore : Obligations.MalformedStapAKeepsTheMembersBefore := by
  unfold Obligations.MalformedStapAKeepsTheMembersBefore
  intro f nri members bad s hl hsize hbad rest hport hpend
  have hwalk : stapWalk (payloadBytes 24 f nri rest).length rest = (members, true) :=
    stapWalk_members_malformedTail hsize hbad (Nat.le_succ _)
  have hlen : ∀ u ∈ members, u.length ≤ (payloadBytes 24 f nri rest).length := by
    intro u hu
    calc u.length ≤ (members.flatMap stapMember).length := length_le_flatMap_stapMember hu
      _ ≤ (members.flatMap stapMember ++ bad).length := by simp
      _ ≤ (payloadBytes 24 f nri rest).length := Nat.le_succ _
  exact (whileLive_live _ hl).trans (unpackStapA_of_walk hwalk hport hlen hpend)

/-- Settles O43: step 3 delivers nothing, so only steps 1 and 4 do, and together they deliver what was pending. -/
theorem deliveryOnlyAtFrameBoundaries : Obligations.DeliveryOnlyAtFrameBoundaries := by
  unfold Obligations.DeliveryOnlyAtFrameBoundaries
  intro a s t r rest hin h bd
  obtain ⟨hl, -⟩ := execUnpack_next (arg := a) h
  rw [exec_unpack_of_record hl hin] at h
  obtain ⟨u, hu, rfl⟩ := thenNext_next h
  obtain ⟨hout, hpend⟩ := unpackPayload_queues hu
  cases hm : r.marker with
  | true =>
    rw [markerStep_true]
    refine ⟨fun hno => absurd (.inl hm) hno, fun _ => ?_, fun _ => rfl⟩
    have hmoved : (preCheck r.ts { s with rtpIn := rest }).naluOut ++ (preCheck r.ts { s with rtpIn := rest }).pending
        = s.naluOut ++ s.pending := by
      rw [preCheck_eq]
      cases preCheckActs r.ts { s with rtpIn := rest } <;> simp
    calc s.naluOut ++ s.pending
        = u.naluOut ++ (preCheck r.ts { s with rtpIn := rest }).pending := by rw [← hmoved, hout]
      _ <+: u.naluOut ++ u.pending := (List.prefix_append_right_inj _).mpr hpend
  | false =>
    rw [markerStep_false]
    rcases preCheck_cases r.ts { s with rtpIn := rest } with ⟨hts, hidle, hpre⟩ | ⟨hold, hpre⟩
    · rw [hpre] at hout
      exact ⟨fun hno => absurd (.inr ⟨hts, hidle⟩) hno, fun _ => by rw [hout]; exact List.prefix_rfl, by simp⟩
    · rw [hpre] at hout hpend
      refine ⟨fun _ => ⟨hout, hpend⟩, fun hbd => ?_, by simp⟩
      rcases hbd with hmark | ⟨hts, hidle⟩
      · simp [hm] at hmark
      · exact (hold.elim hts (· hidle)).elim

/-- Settles O32: the three payloads on which no path of step 3 starts. -/
theorem unpackWithoutAReadablePayloadIsRefused : Obligations.UnpackWithoutAReadablePayloadIsRefused := by
  unfold Obligations.UnpackWithoutAReadablePayloadIsRefused
  intro a s hl
  refine ⟨fun hin => exec_unpack_of_empty hl hin a, fun ts m rest hin => ?_, fun h ts m rest hin h28 => ?_⟩
  · rw [exec_unpack_of_record hl hin]
    rfl
  · have hclass : classOf h = .fuA := by simp [classOf, h28]
    simp only [exec_unpack_of_record hl hin, receive, unpackPayload, hclass, unpackFuA, thenNext]

/-- Settles O36: the Start part alone. -/
theorem startFragmentBeginsAUnit : Obligations.StartFragmentBeginsAUnit := by
  unfold Obligations.StartFragmentBeginsAUnit
  intro f nri r ty data s hl hport hreasm
  exact (whileLive_live _ hl).trans
    (runFuA_of_holds (start := true) (stop := false) (fuAStartPart_eq ..) hport (by rintro u ⟨⟩; exact hreasm) (by simp))

/-- Settles O37: the continuation part alone, with and without a unit in progress. -/
theorem middleFragmentExtendsTheUnit : Obligations.MiddleFragmentExtendsTheUnit := by
  unfold Obligations.MiddleFragmentExtendsTheUnit
  intro f nri r ty data s hl hport
  constructor
  · intro u hu hreasm
    exact (whileLive_live _ hl).trans (runFuA_of_holds (start := false) (stop := false) (fuAContinuePart_of_some hu data)
      hport (by simpa using hreasm) (by simp))
  · intro hnone
    exact (whileLive_live _ hl).trans (runFuA_of_holds (start := false) (stop := false) (fuAContinuePart_of_none hnone data)
      hport (by simp [hnone]) (by simp))

/-- Settles O38: the continuation part, then the End part, which has nothing to complete where there was no unit in progress. -/
theorem endFragmentCompletesTheUnit : Obligations.EndFragmentCompletesTheUnit := by
  unfold Obligations.EndFragmentCompletesTheUnit
  intro f nri r ty data s hl hport
  constructor
  · intro u hu hreasm haccepts hpend
    exact (whileLive_live _ hl).trans (runFuA_of_holds (start := false) (stop := true) (fuAContinuePart_of_some hu data)
      hport (by simpa using hreasm) (by simpa using ⟨haccepts, hpend⟩))
  · intro hnone
    have hrun := runFuA_of_holds (start := false) (stop := true) (header := hdr nri ty)
      (fuAContinuePart_of_none hnone data) hport (by simp [hnone]) (by simp [hnone])
    rw [if_pos rfl, fuAEndPart_of_none (by exact hnone)] at hrun
    exact (whileLive_live _ hl).trans hrun

/-- Settles O39: the Start part, then the End part on the unit it began. -/
theorem startEndFragmentIsAWholeUnit : Obligations.StartEndFragmentIsAWholeUnit := by
  unfold Obligations.StartEndFragmentIsAWholeUnit
  intro f nri r ty data s hl hport hreasm hpend
  have haccepts : s.caps.PortAccepts (data.length + 1) := fun m hm => (Nat.le_succ _).trans (hport m hm)
  exact (whileLive_live _ hl).trans (runFuA_of_holds (start := true) (stop := true) (fuAStartPart_eq ..)
    hport (by rintro u ⟨⟩; exact hreasm) (by rintro - u ⟨⟩; exact ⟨haccepts, hpend⟩))

end Sys2Proof.Machine
end

-- ==== Proofs of the family 42_unpack: what unpack does not depend on ====
section
/-! PROOF. Non-interference of `unpack` (R131, R133): its parts commute with a change of the configuration, and a difference in
CTX.last_timestamp is carried along by every command until the first one that ends it. -/

namespace Sys2Proof.Machine

/-! ### The configuration (R133) -/

/-- The configuration fields, which `unpack` neither reads nor writes. -/
def withConfig (mode : BitVec 32) (size : BitVec 16) (stapA : Bool) (s : State) : State :=
  { s with mode := mode, maxPayloadSize := size, stapAAllowed := stapA }

section Configuration

variable (mode : BitVec 32) (size : BitVec 16) (stapA : Bool) (s : State)

theorem preCheck_withConfig (ts : Timestamp) :
    preCheck ts (withConfig mode size stapA s) = withConfig mode size stapA (preCheck ts s) := by
  rw [preCheck_eq, preCheck_eq]
  rfl

theorem markerStep_withConfig (m : Bool) (ts : Timestamp) :
    markerStep m ts (withConfig mode size stapA s) = withConfig mode size stapA (markerStep m ts s) := by
  cases m <;> rfl

theorem unpackSingle_withConfig (b : Bytes) :
    unpackSingle b (withConfig mode size stapA s) = thenNext (unpackSingle b s) (withConfig mode size stapA) := by
  rw [unpackSingle, unpackSingle, dropReassembly_eq, dropReassembly_eq, apply_ite (thenNext · (withConfig mode size stapA))]
  rfl

theorem unpackStapA_withConfig (b : Bytes) :
    unpackStapA b (withConfig mode size stapA s) = thenNext (unpackStapA b s) (withConfig mode size stapA) := by
  rw [unpackStapA, unpackStapA, dropReassembly_eq, dropReassembly_eq, apply_ite (thenNext · (withConfig mode size stapA))]
  cases (stapWalk b.length (b.drop 1)).2 <;> rfl

theorem fuAContinuePart_withConfig (data : Bytes) :
    fuAContinuePart data (withConfig mode size stapA s) = withConfig mode size stapA (fuAContinuePart data s) := by
  have hsame : (withConfig mode size stapA s).reasm = s.reasm := rfl
  cases h : s.reasm with
  | none => rw [fuAContinuePart_of_none h, fuAContinuePart_of_none (hsame.trans h)]; rfl
  | some u => rw [fuAContinuePart_of_some h, fuAContinuePart_of_some (hsame.trans h)]; rfl

theorem fuAEndPart_withConfig :
    fuAEndPart (withConfig mode size stapA s) = withConfig mode size stapA (fuAEndPart s) := by
  have hsame : (withConfig mode size stapA s).reasm = s.reasm := rfl
  cases h : s.reasm with
  | none => rw [fuAEndPart_of_none h, fuAEndPart_of_none (hsame.trans h)]
  | some u => rw [fuAEndPart_of_some h, fuAEndPart_of_some (hsame.trans h)]; rfl

theorem runFuA_withConfig (start stop : Bool) (header : Byte) (data : Bytes) :
    runFuA start stop header data (withConfig mode size stapA s)
      = thenNext (runFuA start stop header data s) (withConfig mode size stapA) := by
  have hfirst : (if start then fuAStartPart header data (withConfig mode size stapA s)
      else fuAContinuePart data (withConfig mode size stapA s))
      = withConfig mode size stapA (if start then fuAStartPart header data s else fuAContinuePart data s) := by
    cases start with
    | true => simp only [if_true, fuAStartPart_eq]; rfl
    | false => exact fuAContinuePart_withConfig mode size stapA s data
  rw [runFuA, runFuA, hfirst]
  generalize (if start then fuAStartPart header data s else fuAContinuePart data s) = first
  rw [apply_ite (thenNext · (withConfig mode size stapA))]
  cases stop with
  | false => rfl
  | true =>
    simp only [if_true, apply_ite (thenNext · (withConfig mode size stapA)), fuAEndPart_withConfig]
    rfl

theorem unpackPayload_withConfig (b : Bytes) :
    unpackPayload b (withConfig mode size stapA s) = thenNext (unpackPayload b s) (withConfig mode size stapA) := by
  cases b with
  | nil => rfl
  | cons h body =>
    simp only [unpackPayload]
    split
    · exact unpackStapA_withConfig ..
    · cases body with
      | nil => rfl
      | cons fh data => exact runFuA_withConfig ..
    · exact unpackSingle_withConfig ..

theorem receive_withConfig (r : RtpRecord) :
    receive r (withConfig mode size stapA s) = thenNext (receive r s) (withConfig mode size stapA) := by
  rw [receive, receive, preCheck_withConfig, unpackPayload_withConfig]
  cases unpackPayload r.bytes (preCheck r.ts s) with
  | next t => exact congrArg _ (markerStep_withConfig ..)
  | fault e => rfl
  | refused e => rfl

end Configuration

/-! ### CTX.last_timestamp while nothing is held (R131) -/

/-- What `init` leaves: no unit is pending and no reassembly is in progress. -/
structure NothingHeld (s : State) : Prop where
  idle : s.reasm = none
  empty : s.pending = []

theorem flush_of_empty {s : State} (h : s.pending = []) : flush s = s := by
  cases s
  cases h
  simp [flush]

/-- With nothing held, step 1 leaves the payload's timestamp whatever the last one was, and moves no unit. -/
theorem NothingHeld.preCheck_eq {s : State} (h : NothingHeld s) (x ts : Timestamp) :
    preCheck ts (setLastTimestamp x s) = setLastTimestamp ts s := by
  rcases preCheck_cases ts (setLastTimestamp x s) with ⟨-, -, hpre⟩ | ⟨hold, hpre⟩
  · rw [hpre, show setLastTimestamp ts (flush (setLastTimestamp x s)) = setLastTimestamp ts (flush s) from rfl,
      flush_of_empty h.empty]
  · have hts : ts = x := hold.resolve_right (not_not.mpr h.idle)
    rw [hpre, hts]

/-- R131, first half: `unpack` ends the difference. -/
theorem NothingHeld.exec_unpack {s : State} (h : NothingHeld s) (a : BitVec 32) (x y : Timestamp) :
    exec (.unpack a) (setLastTimestamp x s) = exec (.unpack a) (setLastTimestamp y s) := by
  cases hl : s.live with
  | false => exact (whileLive_dead _ hl).trans (whileLive_dead _ hl).symm
  | true =>
    cases hin : s.rtpIn with
    | nil =>
      have hrun : ∀ z, exec (.unpack a) (setLastTimestamp z s) = .refused .noPayload :=
        fun z => exec_unpack_of_empty (s := setLastTimestamp z s) hl hin a
      rw [hrun, hrun]
    | cons r rest =>
      have hrest : NothingHeld { s with rtpIn := rest } := ⟨h.idle, h.empty⟩
      have hrun : ∀ z, exec (.unpack a) (setLastTimestamp z s)
          = thenNext (unpackPayload r.bytes (setLastTimestamp r.ts { s with rtpIn := rest })) (markerStep r.marker r.ts) :=
        fun z => (exec_unpack_of_record (s := setLastTimestamp z s) hl hin a).trans
          (congrArg (fun u => thenNext (unpackPayload r.bytes u) (markerStep r.marker r.ts)) (hrest.preCheck_eq z r.ts))
      rw [hrun, hrun]

/-- A meaning that hands CTX.last_timestamp on unread, and after which nothing is held if nothing was before. -/
structure HandsOnTimestamp (run : State → Result) : Prop where
  commutes : ∀ x s, run (setLastTimestamp x s) = thenNext (run s) (setLastTimestamp x)
  nothingHeld : ∀ s t, NothingHeld s → run s = .next t → NothingHeld t

theorem HandsOnTimestamp.whileLive {run : State → Result} (h : HandsOnTimestamp run) :
    HandsOnTimestamp (fun s => whileLive s (run s)) where
  commutes x s := by
    cases hl : s.live with
    | false => exact (whileLive_dead _ hl).trans (congrArg (thenNext · _) (whileLive_dead _ hl).symm)
    | true =>
      exact (whileLive_live _ hl).trans ((h.commutes x s).trans (congrArg (thenNext · _) (whileLive_live _ hl).symm))
  nothingHeld s t hs ht := h.nothingHeld s t hs (whileLive_next ht).2

theorem handsOnTimestamp_refused (e : Refusal) : HandsOnTimestamp (fun _ => .refused e) where
  commutes _ _ := rfl
  nothingHeld _ _ _ h := by cases h

theorem handsOnTimestamp_next {f : State → State} (hcommutes : ∀ x s, f (setLastTimestamp x s) = setLastTimestamp x (f s))
    (hheld : ∀ s, NothingHeld s → NothingHeld (f s)) : HandsOnTimestamp (fun s => .next (f s)) where
  commutes x s := congrArg _ (hcommutes x s)
  nothingHeld s _ hs ht := by cases ht; exact hheld s hs

theorem handsOnTimestamp_setMode (arg : BitVec 32) : HandsOnTimestamp (execSetMode arg) :=
  HandsOnTimestamp.whileLive (handsOnTimestamp_next (fun _ _ => rfl) fun _ h => ⟨h.idle, h.empty⟩)

theorem handsOnTimestamp_enableStapA (arg : BitVec 32) : HandsOnTimestamp (execEnableStapA arg) :=
  HandsOnTimestamp.whileLive (handsOnTimestamp_next (fun _ _ => rfl) fun _ h => ⟨h.idle, h.empty⟩)

theorem handsOnTimestamp_setMaxPayloadSize (arg : BitVec 32) : HandsOnTimestamp (execSetMaxPayloadSize arg) := by
  refine HandsOnTimestamp.whileLive ?_
  split
  · exact handsOnTimestamp_refused _
  · exact handsOnTimestamp_next (fun _ _ => rfl) fun _ h => ⟨h.idle, h.empty⟩

theorem handsOnTimestamp_uninit (arg : BitVec 32) : HandsOnTimestamp (execUninit arg) :=
  HandsOnTimestamp.whileLive (handsOnTimestamp_next (fun _ _ => rfl) fun _ _ => ⟨rfl, rfl⟩)

/-- R89 says more of a packetizer's meaning than is asked here. -/
theorem PackPure.handsOnTimestamp {run : State → Result} (h : PackPure run) : HandsOnTimestamp run where
  commutes x s := by
    have hindep : run (setLastTimestamp x s) = thenNext (run s) (withReceiver x s.reasm s.pending s.rtpIn s.naluOut) :=
      h.indep x s.reasm s.pending s.rtpIn s.naluOut s
    rw [hindep]
    cases hrun : run s with
    | next t => rw [h.frame s t hrun]; rfl
    | fault e => rfl
    | refused e => rfl
  nothingHeld s t hs ht := by
    rw [h.frame s t ht]
    exact ⟨hs.idle, hs.empty⟩

/-! ### Two runs that differ in CTX.last_timestamp alone -/

/-- From states that hold nothing and differ in CTX.last_timestamp alone, a meaning answers the same or goes on to such states. -/
def EndsOrKeepsTheDifference (run : State → Result) : Prop :=
  ∀ s x y, NothingHeld s →
    run (setLastTimestamp x s) = run (setLastTimestamp y s)
    ∨ ∃ t, NothingHeld t ∧ run (setLastTimestamp x s) = .next (setLastTimestamp x t)
        ∧ run (setLastTimestamp y s) = .next (setLastTimestamp y t)

theorem HandsOnTimestamp.endsOrKeeps {run : State → Result} (h : HandsOnTimestamp run) : EndsOrKeepsTheDifference run := by
  intro s x y hs
  rw [h.commutes, h.commutes]
  cases hrun : run s with
  | next t => exact .inr ⟨t, h.nothingHeld s t hs hrun, rfl, rfl⟩
  | fault e => nomatch e
  | refused e => exact .inl rfl

/-- `init` and `unpack` end the difference; the other six commands hand the timestamp on. -/
theorem exec_decodeCommand_endsOrKeeps (w : CommandWord) : EndsOrKeepsTheDifference (exec (decodeCommand w)) := by
  unfold decodeCommand
  split
  case h_1 => exact fun _ _ _ _ => .inl rfl
  case h_2 => exact (handsOnTimestamp_setMode _).endsOrKeeps
  case h_3 => exact (handsOnTimestamp_enableStapA _).endsOrKeeps
  case h_4 => exact (handsOnTimestamp_setMaxPayloadSize _).endsOrKeeps
  case h_5 => exact (packPure_execPack _).handsOnTimestamp.endsOrKeeps
  case h_6 => exact fun _ x y h => .inl (h.exec_unpack _ x y)
  case h_7 => exact (handsOnTimestamp_uninit (commandArg w)).endsOrKeeps
  case h_8 => exact (handsOnTimestamp_refused _).endsOrKeeps

theorem step_endsOrKeeps : EndsOrKeepsTheDifference step := by
  intro s x y h
  cases hcmd : s.cmdIn with
  | nil =>
    have hidle : ∀ z, step (setLastTimestamp z s) = .next (setLastTimestamp z s) := fun z => by
      simp only [step, fetchCommand, setLastTimestamp_cmdIn, hcmd]
    exact .inr ⟨s, h, hidle x, hidle y⟩
  | cons w ws =>
    have hexec : ∀ z, step (setLastTimestamp z s) = exec (decodeCommand w) (setLastTimestamp z { s with cmdIn := ws }) :=
      fun z => by simp only [step, fetchCommand, setLastTimestamp_cmdIn, hcmd]; rfl
    rw [hexec, hexec]
    exact exec_decodeCommand_endsOrKeeps w _ x y ⟨h.idle, h.empty⟩

/-- Two outcomes that are the same refusal, or next states that differ in CTX.last_timestamp alone. -/
def SameButTimestamp (p q : Result) : Prop :=
  (∃ e, p = .refused e ∧ q = .refused e)
  ∨ ∃ (t : State) (x y : Timestamp), p = .next (setLastTimestamp x t) ∧ q = .next (setLastTimestamp y t)

theorem SameButTimestamp.refl (p : Result) : SameButTimestamp p p := by
  cases p with
  | next t => exact .inr ⟨t, t.lastTimestamp, t.lastTimestamp, rfl, rfl⟩
  | fault e => nomatch e
  | refused e => exact .inl ⟨e, rfl, rfl⟩

theorem core_run_succ_congr {s s' : State} (h : step s = step s') (k : Nat) :
    Host.Core.run Sys2Proof.core (k + 1) s = Host.Core.run Sys2Proof.core (k + 1) s' := by
  have hstep : Sys2Proof.core.step s = Sys2Proof.core.step s' := h
  simp only [Host.Core.run, hstep]

/-- R131 over a whole run: step by step the difference stays in CTX.last_timestamp, until a step ends it and the runs are one. -/
theorem core_run_sameButTimestamp (k : Nat) {s : State} (x y : Timestamp) (h : NothingHeld s) :
    SameButTimestamp (Host.Core.run Sys2Proof.core k (setLastTimestamp x s))
      (Host.Core.run Sys2Proof.core k (setLastTimestamp y s)) := by
  induction k generalizing s with
  | zero => exact .inr ⟨s, x, y, rfl, rfl⟩
  | succ k ih =>
    rcases step_endsOrKeeps s x y h with hsame | ⟨t, ht, hx, hy⟩
    · rw [core_run_succ_congr hsame]
      exact .refl _
    · rw [core_run_succ hx, core_run_succ hy]
      exact ih ht

/-! ### The statements -/

/-- Settles O45: one `unpack` ends the difference, and a run of any length carries it in CTX.last_timestamp at most. -/
theorem sentinelIsUnobservable : Obligations.SentinelIsUnobservable := by
  unfold Obligations.SentinelIsUnobservable
  exact ⟨fun a _ x y hempty hidle => NothingHeld.exec_unpack ⟨hidle, hempty⟩ a x y,
    fun k _ x y hempty hidle => core_run_sameButTimestamp k x y ⟨hidle, hempty⟩⟩

/-- Settles O44: without a Context or a payload the refusal is the same; else every part of `unpack` commutes with the change. -/
theorem unpackIgnoresTheConfiguration : Obligations.UnpackIgnoresTheConfiguration := by
  unfold Obligations.UnpackIgnoresTheConfiguration
  intro a s mode size stapA
  change exec (.unpack a) (withConfig mode size stapA s) = thenNext (exec (.unpack a) s) (withConfig mode size stapA)
  cases hl : s.live with
  | false =>
    have hdead : ∀ u : State, u.live = false → exec (.unpack a) u = .refused .noContext := fun _ hu => whileLive_dead _ hu
    rw [hdead s hl, hdead _ (show (withConfig mode size stapA s).live = false from hl)]
    rfl
  | true =>
    have hl' : (withConfig mode size stapA s).live = true := hl
    cases hin : s.rtpIn with
    | nil =>
      rw [exec_unpack_of_empty hl hin, exec_unpack_of_empty hl' (show (withConfig mode size stapA s).rtpIn = [] from hin)]
      rfl
    | cons r rest =>
      rw [exec_unpack_of_record hl hin,
        exec_unpack_of_record hl' (show (withConfig mode size stapA s).rtpIn = r :: rest from hin)]
      exact receive_withConfig mode size stapA { s with rtpIn := rest } r

end Sys2Proof.Machine
end

-- ==== Proofs of the family 43_lifecycle ====
section
/-! PROOF. The Context's lifecycle and configuration commands (R140 to R148): what each command is while there is a Context, and that
it is refused without one; then the statements. -/

namespace Sys2Proof.Machine

/-! ### The default budget (D7) -/

/-- The floor of `Config.defaultMaxPayloadSize` does its work whatever the opaque size is. -/
theorem three_le_defaultMaxPayloadSize : 3 ≤ Config.defaultMaxPayloadSize.toNat := by
  unfold Config.defaultMaxPayloadSize
  split
  next => decide
  next hsize => exact Nat.le_of_not_lt hsize

/-! ### With a Context (R141 to R143, R146) -/

section WithContext

variable {s : State} (hl : s.live = true) (arg : BitVec 32)
include hl

theorem exec_setMode_live : exec (.setMode arg) s = .next { s with mode := arg } := whileLive_live _ hl

theorem exec_enableStapA_live : exec (.enableStapA arg) s = .next { s with stapAAllowed := arg != 0 } :=
  whileLive_live _ hl

theorem exec_setMaxPayloadSize_inRange (hpos : 1 ≤ arg.toNat) (hle : arg.toNat ≤ 65535) :
    exec (.setMaxPayloadSize arg) s = .next { s with maxPayloadSize := arg.extractLsb' 0 16 } :=
  (whileLive_live _ hl).trans (if_neg (by omega))

theorem exec_setMaxPayloadSize_outOfRange (hout : arg.toNat = 0 ∨ 65535 < arg.toNat) :
    exec (.setMaxPayloadSize arg) s = .refused .sizeOutOfRange :=
  (whileLive_live _ hl).trans (if_pos hout)

theorem exec_uninit_live : exec (.uninit arg) s = .next { s with pending := [], reasm := none, live := false } :=
  whileLive_live _ hl

end WithContext

/-- The register's 16 bits lose nothing of an argument that `set_max_payload_size` accepts (R143). -/
theorem toNat_lowHalf_of_le {arg : BitVec 32} (hle : arg.toNat ≤ 65535) : (arg.extractLsb' 0 16).toNat = arg.toNat := by
  rw [BitVec.extractLsb'_toNat, Nat.shiftRight_zero]
  exact Nat.mod_eq_of_lt (Nat.lt_succ_of_le hle)

/-! ### Without a Context (R145) -/

section WithoutContext

variable {s : State} (hl : s.live = false) (arg : BitVec 32)
include hl

theorem exec_setMode_dead : exec (.setMode arg) s = .refused .noContext := whileLive_dead _ hl

theorem exec_enableStapA_dead : exec (.enableStapA arg) s = .refused .noContext := whileLive_dead _ hl

theorem exec_setMaxPayloadSize_dead : exec (.setMaxPayloadSize arg) s = .refused .noContext := whileLive_dead _ hl

theorem exec_pack_dead : exec (.pack arg) s = .refused .noContext := whileLive_dead _ hl

theorem exec_unpack_dead : exec (.unpack arg) s = .refused .noContext := whileLive_dead _ hl

theorem exec_uninit_dead : exec (.uninit arg) s = .refused .noContext := whileLive_dead _ hl

end WithoutContext

/-! ### The statements -/

/-- Settles O1: `init` asks nothing of the state (R147), so its equation is its definition; the bound is the constant's own. -/
theorem initCreatesTheContext : Obligations.InitCreatesTheContext := by
  unfold Obligations.InitCreatesTheContext
  exact ⟨fun _ _ => rfl, three_le_defaultMaxPayloadSize⟩

/-- Settles O2. -/
theorem setModeStoresAnyValue : Obligations.SetModeStoresAnyValue := by
  unfold Obligations.SetModeStoresAnyValue
  exact fun arg _ => ⟨fun hl => exec_setMode_live hl arg, fun hl => exec_setMode_dead hl arg⟩

/-- Settles O3: the Boolean written is `arg != 0`, which the first two clauses evaluate. -/
theorem enableStapAReadsABoolean : Obligations.EnableStapAReadsABoolean := by
  unfold Obligations.EnableStapAReadsABoolean
  intro arg s
  refine ⟨fun hl hzero => ?_, fun hl hne => ?_, fun hl => exec_enableStapA_dead hl arg⟩
  · rw [exec_enableStapA_live hl, bne_eq_false_iff_eq.mpr hzero]
  · rw [exec_enableStapA_live hl, bne_iff_ne.mpr hne]

/-- Settles O4: an accepted argument is stored as its low half, which is the whole of it. -/
theorem setMaxPayloadSizeAcceptsExactlyItsRange : Obligations.SetMaxPayloadSizeAcceptsExactlyItsRange := by
  unfold Obligations.SetMaxPayloadSizeAcceptsExactlyItsRange
  intro arg s
  refine ⟨fun hl hpos hle => ?_, fun hl hout => ?_, fun hl => exec_setMaxPayloadSize_dead hl arg⟩
  · exact ⟨arg.extractLsb' 0 16, toNat_lowHalf_of_le hle, exec_setMaxPayloadSize_inRange hl arg hpos hle⟩
  · exact exec_setMaxPayloadSize_outOfRange hl arg hout

/-- Settles O5. -/
theorem uninitDiscardsAndEndsTheContext : Obligations.UninitDiscardsAndEndsTheContext := by
  unfold Obligations.UninitDiscardsAndEndsTheContext
  exact fun arg _ => ⟨fun hl => exec_uninit_live hl arg, fun hl => exec_uninit_dead hl arg⟩

/-- Settles O6: each of the six commands stands under the same guard. -/
theorem noContextRefusesSixCommands : Obligations.NoContextRefusesSixCommands := by
  unfold Obligations.NoContextRefusesSixCommands
  exact fun a _ hl => ⟨exec_setMode_dead hl a, exec_enableStapA_dead hl a, exec_setMaxPayloadSize_dead hl a,
    exec_pack_dead hl a, exec_unpack_dead hl a, exec_uninit_dead hl a⟩

/-- Settles O7: the row has no meaning but its refusal, which reads neither the argument nor the state. -/
theorem reservedOpcodeIsRefused : Obligations.ReservedOpcodeIsRefused := by
  unfold Obligations.ReservedOpcodeIsRefused
  exact fun _ _ => rfl

end Sys2Proof.Machine
end

-- ==== Proofs of the family other: the encodings and the command port ====
section
/-! PROOF. What each format's decoder makes of the words that `encode` writes, and back (R50 to R67, R151); then the command port
(R40, R66), and the rows whose meaning is their equation. -/

namespace Sys2Proof.Machine

/-! ### Command words (R66, R67) -/

/-- A command word is its two fields. -/
theorem commandWord_of_fields (w : CommandWord) : commandWord (commandOp w) (commandArg w) = w := by
  apply BitVec.eq_of_getLsbD_eq
  intro i hi
  rw [show (commandWord (commandOp w) (commandArg w)).getLsbD i
      = (if i < 32 then (commandArg w).getLsbD i else (commandOp w).getLsbD (i - 32)) from BitVec.getLsbD_append ..]
  simp only [commandArg, commandOp, BitVec.getLsbD_extractLsb']
  split
  · simp [*]
  · rw [Nat.add_sub_cancel' (by omega)]
    simp; omega

/-- The eight values of op are the eight rows of R67. -/
theorem commandOp_cases : ∀ op : BitVec 3,
    op = 0 ∨ op = 1 ∨ op = 2 ∨ op = 3 ∨ op = 4 ∨ op = 5 ∨ op = 6 ∨ op = 7 := by decide

theorem encode_decodeCommand (w : CommandWord) : encode (decodeCommand w) = .command w := by
  rw [← commandWord_of_fields w]
  generalize commandOp w = op, commandArg w = arg
  rcases commandOp_cases op with rfl | rfl | rfl | rfl | rfl | rfl | rfl | rfl <;> simp [decodeCommand, encode]

theorem decodePackRow_commandWord (ts : Timestamp) (mode : BitVec 32) :
    decodePackRow (commandWord 4 ts) mode
      = .ok (if mode = 0 then .packMode0 ts else if mode = 1 then .packMode1 ts else .packBadMode ts) := by
  simp only [decodePackRow, commandOp_commandWord, commandArg_commandWord, if_true, apply_ite Except.ok]

/-! ### Payloads (R50, R53) -/

/-- A payload's bytes are read back as the row of its type, unless it is an FU-A payload without an FU header (R132). -/
theorem decodePayload_payloadBytes {ty : BitVec 5} {rest : Bytes} (h : ¬ (ty = 28 ∧ rest = [])) (f : BitVec 1) (nri : BitVec 2) :
    decodePayload (payloadBytes ty f nri rest) = .ok (payloadRow ty f nri rest) := by
  simp only [payloadBytes, decodePayload, nalType_headerByte, nalF_headerByte, nalNri_headerByte, if_neg h]

theorem encode_payloadRow (ty : BitVec 5) (f : BitVec 1) (nri : BitVec 2) (rest : Bytes) :
    encode (payloadRow ty f nri rest) = .payload (payloadBytes ty f nri rest) := by
  obtain ⟨⟨k, hk⟩⟩ := ty
  interval_cases k <;> rfl

/-- What a payload decodes to is the row of its type, and the payload is that row's bytes. -/
theorem decodePayload_ok {b : Bytes} {i : Instr} (h : decodePayload b = .ok i) :
    ∃ ty f nri rest, b = payloadBytes ty f nri rest ∧ i = payloadRow ty f nri rest := by
  unfold decodePayload at h
  split at h
  · cases h
  · rename_i hd rest
    split at h
    · cases h
    · cases h
      exact ⟨_, _, _, _, by rw [payloadBytes, headerByte_of_fields], rfl⟩

/-! ### Fragments (R59, R61, R63) -/

theorem fuHeaderByte_of_fields : ∀ h : Byte,
    fuHeaderByte (BitVec.ofBool (fuStart h)) (BitVec.ofBool (fuEnd h)) (fuBit5 h) (fuType h) = h := by
  decide +kernel

/-- A fragment's bytes are read back as the row that S and E select. -/
theorem decodeFuA_fuABytes (s e f : BitVec 1) (nri : BitVec 2) (r : BitVec 1) (ftype : BitVec 5) (data : Bytes) :
    decodeFuA (fuABytes s e f nri r ftype data) = .ok (fuARow (decide (s = 1)) (decide (e = 1)) f nri r ftype data) := by
  simp [decodeFuA, fuABytes]

theorem encode_fuARow (s e : Bool) (f : BitVec 1) (nri : BitVec 2) (r : BitVec 1) (ftype : BitVec 5) (data : Bytes) :
    encode (fuARow s e f nri r ftype data) = .fuA (fuABytes (BitVec.ofBool s) (BitVec.ofBool e) f nri r ftype data) := by
  cases s <;> cases e <;> rfl

theorem encode_of_decodeFuA {b : Bytes} {i : Instr} (h : decodeFuA b = .ok i) : encode i = .fuA b := by
  unfold decodeFuA at h
  split at h
  · cases h
  · rename_i ind b
    split at h
    · rename_i h28
      split at h
      · cases h
      · cases h
        rw [encode_fuARow, fuABytes, fuHeaderByte_of_fields, ← h28, headerByte_of_fields]
    · cases h

/-! ### Layouts (R56, R57, R60, R62) -/

/-- The two bytes of a size, read as one number, are the size (R57). -/
theorem be16_append (size : BitVec 16) :
    BitVec.ofNat 8 (size.toNat / 256) ++ BitVec.ofNat 8 (size.toNat % 256) = size := by
  apply BitVec.eq_of_toNat_eq
  have hlt := size.isLt
  rw [BitVec.toNat_append, ← Nat.shiftLeft_add_eq_or_of_lt (BitVec.isLt _), Nat.shiftLeft_eq, BitVec.toNat_ofNat,
    BitVec.toNat_ofNat]
  omega

theorem decodeStapASize_be16 (size : BitVec 16) : decodeStapASize (be16 size.toNat) = .ok (.formatStapASize size) :=
  congrArg (fun v => Except.ok (Instr.formatStapASize v)) (be16_append size)

theorem decodeStapAHeader_headerByte (nri : BitVec 2) :
    decodeStapAHeader (headerByte 0 nri 24) = .ok (.formatStapAHeader 0 nri) := by
  simp [decodeStapAHeader]

theorem decodeFuIndicator_headerByte (nri : BitVec 2) :
    decodeFuIndicator (headerByte 0 nri 28) = .ok (.formatFuIndicator 0 nri) := by
  simp [decodeFuIndicator]

theorem decodeFuHeader_fuHeaderByte : ∀ (s e : BitVec 1) (ftype : BitVec 5),
    decodeFuHeader (fuHeaderByte s e 0 ftype) = .ok (.formatFuHeader s e 0 ftype) := by
  decide +kernel

/-- The bits that a generated layout fixes at 0 are 0 in a well-formed term (R51, R62). -/
theorem fixedBit_of_wellFormed {x : BitVec 1} {e : IllFormed} (h : (if x = 0 then none else some e).isNone = true) : x = 0 := by
  split at h
  · assumption
  · cases h

/-! ### The command port (R19, R40, R165) -/

theorem step_of_command {s : State} {w : CommandWord} {ws : List CommandWord} (h : s.cmdIn = w :: ws) :
    step s = exec (decodeCommand w) { s with cmdIn := ws } := by
  simp only [step, fetchCommand, h]

theorem step_of_idle {s : State} (h : s.cmdIn = []) : step s = .next s := by
  simp only [step, fetchCommand, h]

/-! ### The statements -/

/-- Settles O12: format by format, the decoder's equation on the words that `encode` writes. -/
theorem decodeInvertsEncode : Obligations.DecodeInvertsEncode := by
  unfold Obligations.DecodeInvertsEncode
  intro i hwf
  cases i with
  | init arg | setMode arg | enableStapA arg | setMaxPayloadSize arg | pack arg | unpack arg | uninit arg | reservedOp7 arg =>
    simp [encode, decode, decodeCommand]
  | packMode0 ts | packMode1 ts | packBadMode ts => exact decodePackRow_commandWord ts _
  | payloadSingleNalT0 f nri rest | payloadSingleNalT1 f nri rest | payloadSingleNalT2 f nri rest
  | payloadSingleNalT3 f nri rest | payloadSingleNalT4 f nri rest | payloadSingleNalT5 f nri rest
  | payloadSingleNalT6 f nri rest | payloadSingleNalT7 f nri rest | payloadSingleNalT8 f nri rest
  | payloadSingleNalT9 f nri rest | payloadSingleNalT10 f nri rest | payloadSingleNalT11 f nri rest
  | payloadSingleNalT12 f nri rest | payloadSingleNalT13 f nri rest | payloadSingleNalT14 f nri rest
  | payloadSingleNalT15 f nri rest | payloadSingleNalT16 f nri rest | payloadSingleNalT17 f nri rest
  | payloadSingleNalT18 f nri rest | payloadSingleNalT19 f nri rest | payloadSingleNalT20 f nri rest
  | payloadSingleNalT21 f nri rest | payloadSingleNalT22 f nri rest | payloadSingleNalT23 f nri rest
  | payloadStapA f nri rest | payloadSingleNalT25 f nri rest | payloadSingleNalT26 f nri rest
  | payloadSingleNalT27 f nri rest | payloadSingleNalT29 f nri rest | payloadSingleNalT30 f nri rest
  | payloadSingleNalT31 f nri rest =>
    exact decodePayload_payloadBytes (by simp) f nri
  | payloadFuA f nri rest =>
    have hrest : rest ≠ [] := by
      rintro rfl
      cases hwf
    exact decodePayload_payloadBytes (by simp [hrest]) f nri
  | fuAStart f nri r ftype data => exact decodeFuA_fuABytes 1 0 f nri r ftype data
  | fuAMiddle f nri r ftype data => exact decodeFuA_fuABytes 0 0 f nri r ftype data
  | fuAEnd f nri r ftype data => exact decodeFuA_fuABytes 0 1 f nri r ftype data
  | fuAStartEnd f nri r ftype data => exact decodeFuA_fuABytes 1 1 f nri r ftype data
  | formatNalHeader f nri ty => simp [encode, decode]
  | formatStapAHeader f nri =>
    cases fixedBit_of_wellFormed hwf
    exact decodeStapAHeader_headerByte nri
  | formatStapASize size => exact decodeStapASize_be16 size
  | formatFuIndicator f nri =>
    cases fixedBit_of_wellFormed hwf
    exact decodeFuIndicator_headerByte nri
  | formatFuHeader s e r ftype =>
    cases fixedBit_of_wellFormed hwf
    exact decodeFuHeader_fuHeaderByte s e ftype
  | evBadMode | evOversize | evStapAMalformed | evFuANestedStart | evFuANoStart | evFuADiscontinued => rfl

/-- Settles O13: each decoder keeps every field of what it reads. -/
theorem encodeInvertsDecode : Obligations.EncodeInvertsDecode := by
  unfold Obligations.EncodeInvertsDecode
  refine ⟨encode_decodeCommand, fun b i h => ?_, fun b i h => encode_of_decodeFuA h⟩
  obtain ⟨ty, f, nri, rest, rfl, rfl⟩ := decodePayload_ok h
  exact encode_payloadRow ty f nri rest

/-- Settles O9. -/
theorem stepRunsTheOldestCommand : Obligations.StepRunsTheOldestCommand := by
  unfold Obligations.StepRunsTheOldestCommand
  exact fun s w ws hcmd => step_of_command hcmd

/-- Settles O10. -/
theorem idleBlockKeepsItsState : Obligations.IdleBlockKeepsItsState := by
  unfold Obligations.IdleBlockKeepsItsState
  exact fun s hcmd => step_of_idle hcmd

/-- Settles O11: each word is a closed term, which the decoder evaluates. -/
theorem wordsOfTheTablesDecode : Obligations.WordsOfTheTablesDecode := by
  unfold Obligations.WordsOfTheTablesDecode
  exact ⟨rfl, rfl, rfl, rfl, rfl, rfl, rfl, rfl⟩

/-- Settles O47: each row pushes its code, whatever the state. -/
theorem eventRowsPushTheirCodes : Obligations.EventRowsPushTheirCodes := by
  unfold Obligations.EventRowsPushTheirCodes
  exact fun _ => ⟨rfl, rfl, rfl, rfl, rfl, rfl⟩

/-- Settles O48: no layout reads its operands or the state. -/
theorem formatRowsStop : Obligations.FormatRowsStop := by
  unfold Obligations.FormatRowsStop
  exact fun _ => ⟨fun _ _ _ => rfl, fun _ _ => rfl, fun _ => rfl, fun _ _ => rfl, fun _ _ _ _ => rfl⟩

end Sys2Proof.Machine
end

-- ==== Proofs of the family other: pack in mode 1, run by run ====
section
/-! PROOF. The rows of `pack` in and outside their modes (R81), and how the payloads of a Mode-1 frame come apart: the first run of
units, in each of the ways in which it leaves, and then what the rest of the frame gives by itself (R91 to R101). -/

namespace Sys2Proof.Machine

/-! ### The rows of `pack` (R81) -/

section Rows

variable {s : State} (ts : Timestamp) (hl : s.live = true)
include hl

theorem exec_packMode1_of_mode1 (hm : s.mode = 1) : exec (.packMode1 ts) s = runPackMode1 ts s :=
  (whileLive_live _ hl).trans (if_pos hm)

theorem exec_packMode0_of_other (hm : s.mode ≠ 0) : exec (.packMode0 ts) s = .refused .packRowNotSelected :=
  (whileLive_live _ hl).trans (if_neg hm)

theorem exec_packMode1_of_other (hm : s.mode ≠ 1) : exec (.packMode1 ts) s = .refused .packRowNotSelected :=
  (whileLive_live _ hl).trans (if_neg hm)

theorem exec_packBadMode_of_other (hm : s.mode = 0 ∨ s.mode = 1) : exec (.packBadMode ts) s = .refused .packRowNotSelected :=
  (whileLive_live _ hl).trans (if_pos hm)

/-- In mode 1 `pack` is its row. -/
theorem exec_packMode1_eq_pack (hm : s.mode = 1) : exec (.packMode1 ts) s = exec (.pack ts) s :=
  (exec_packMode1_of_mode1 ts hl hm).trans (exec_pack_of_mode1 ts hl hm).symm

end Rows

/-! ### What every payload of a frame has (R88, R91) -/

/-- A payload that goes out stamped with `ts` and is not empty. -/
structure Stamped (ts : Timestamp) (r : RtpRecord) : Prop where
  ts_eq : r.ts = ts
  nonempty : r.bytes ≠ []

theorem RunPayloads.stamped {M : Nat} {ts : Timestamp} {last : Bool} {us : List Bytes} {rs : List RtpRecord}
    (h : RunPayloads M ts last us rs) (hus : ∀ u ∈ us, u ≠ []) : ∀ r ∈ rs, Stamped ts r := by
  intro r hr
  cases h with
  | whole n h =>
    rw [List.mem_singleton.mp hr]
    exact ⟨rfl, hus n List.mem_cons_self⟩
  | stapA p qs h =>
    rw [List.mem_singleton.mp hr]
    exact ⟨rfl, List.cons_ne_nil _ _⟩
  | fragments n hM h =>
    obtain ⟨j, -, rfl⟩ := mem_fragment hr
    exact ⟨rfl, by simp [fragmentAt_bytes]⟩

theorem FramePayloads.stamped {M : Nat} {ts : Timestamp} {nalus : List Bytes} {out : List RtpRecord}
    (h : FramePayloads M ts nalus out) (hne : ∀ u ∈ nalus, u ≠ []) : ∀ r ∈ out, Stamped ts r := by
  induction h with
  | nil => simp
  | run h _ ih =>
    intro r hr
    rcases List.mem_append.mp hr with hr | hr
    · exact h.stamped (fun u hu => hne u (List.mem_append_left _ hu)) r hr
    · exact ih (fun u hu => hne u (List.mem_append_right _ hu)) r hr

/-- R105 at the ports: what accepts M bytes accepts every payload of a frame. -/
theorem FramePayloads.portAccepts {M : Nat} {ts : Timestamp} {nalus : List Bytes} {out : List RtpRecord} {caps : Capacities}
    (h : FramePayloads M ts nalus out) (hport : caps.PortAccepts M) : ∀ r ∈ out, caps.PortAccepts r.bytes.length :=
  fun r hr m hm => (h.length_le r hr).1.trans (hport m hm)

/-- A Mode-1 `pack` completes when the ports accept its units and M bytes, and no unit must be fragmented with M < 3 (R91). -/
theorem exec_pack_mode1_of_units {ts : Timestamp} {s : State} (hl : s.live = true) (hm : s.mode = 1)
    (hin : ∀ n ∈ s.naluIn, n ≠ [] ∧ s.caps.PortAccepts n.length) (hport : s.caps.PortAccepts s.maxPayloadSize.toNat)
    {recs : List RtpRecord} (hrecs : mode1Records s.maxPayloadSize.toNat s.stapAAllowed ts s.naluIn = some recs) :
    exec (.pack ts) s = .next { s with naluIn := [], rtpOut := s.rtpOut ++ recs } :=
  exec_pack_mode1_of_records hl hm (fun n hn => (hin n hn).1) hrecs (fun n hn => (hin n hn).2)
    ((mode1Records_framePayloads hrecs).portAccepts hport)

/-! ### The run at the front of a frame (R92 to R96) -/

/-- The size that the merge test counts: the header, then every unit behind its two size bytes (R55, R90). -/
theorem stapPayload_length (p : Bytes) (qs : List Bytes) :
    (stapPayload p qs).length = 1 + ((p :: qs).map (fun u => 2 + u.length)).sum := by
  simp only [stapPayload, List.length_cons, List.length_flatMap, stapMember_length, Nat.add_comm]

theorem stapPayload_length_mono (p : Bytes) (qs us : List Bytes) :
    (stapPayload p qs).length ≤ (stapPayload p (qs ++ us)).length := by
  simp [stapPayload]

/-- The candidate takes units as long as the run stays shorter than M (R92). -/
theorem mode1Loop_takes {M : Nat} (ts : Timestamp) (p : Bytes) (qs us rest : List Bytes)
    (h : us ≠ [] → (stapPayload p (qs ++ us)).length < M) :
    mode1Loop M true ts (some (candidateOf p qs)) (us ++ rest)
      = mode1Loop M true ts (some (candidateOf p (qs ++ us))) rest := by
  induction us generalizing qs with
  | nil => simp
  | cons u us ih =>
    have hall : (stapPayload p ((qs ++ [u]) ++ us)).length < M := by simpa using h (List.cons_ne_nil _ _)
    have htest : (candidateOf p qs).psz + u.length + 2 < M :=
      (candidateOf_psz_add p qs u).trans_lt ((stapPayload_length_mono p (qs ++ [u]) us).trans_lt hall)
    rw [List.cons_append, mode1Loop_merge htest, merge_candidateOf, ih _ fun _ => hall, List.append_assoc]
    rfl

/-- A first unit below M div 2 becomes the candidate and takes the run behind it (R92, R96). -/
theorem mode1Loop_run {M : Nat} (ts : Timestamp) {p : Bytes} {qs : List Bytes} (hp : p.length < M / 2)
    (h : qs ≠ [] → (stapPayload p qs).length < M) (rest : List Bytes) :
    mode1Loop M true ts none (p :: qs ++ rest) = mode1Loop M true ts (some (candidateOf p qs)) rest := by
  rw [List.cons_append, mode1Loop_candidate hp, newCandidate_eq_candidateOf, mode1Loop_takes ts p [] qs rest h, List.nil_append]

/-- A run that ends its frame is its one payload, marked (R101). -/
theorem mode1Records_of_run {M : Nat} (ts : Timestamp) {p : Bytes} {qs : List Bytes} (hp : p.length < M / 2)
    (h : qs ≠ [] → (stapPayload p qs).length < M) :
    mode1Records M true ts (p :: qs) = some [⟨(candidateOf p qs).bytes, ts, true⟩] := by
  have hrun := mode1Loop_run ts hp h []
  rwa [List.append_nil] at hrun

/-- A run that cannot take the next unit leaves unmarked, in front of what the rest of the frame gives (R95). -/
theorem mode1Records_of_flushedRun {M : Nat} (ts : Timestamp) {p : Bytes} {qs : List Bytes} (hp : p.length < M / 2)
    (h : qs ≠ [] → (stapPayload p qs).length < M) {n : Bytes} (hn : M ≤ (stapPayload p (qs ++ [n])).length)
    {rest : List Bytes} {recs : List RtpRecord} (hrest : mode1Records M true ts (n :: rest) = some recs) :
    mode1Records M true ts (p :: qs ++ n :: rest) = some (⟨(candidateOf p qs).bytes, ts, false⟩ :: recs) := by
  have hfull : ¬ (candidateOf p qs).psz + n.length + 2 < M := by
    rw [candidateOf_psz_add]
    omega
  rw [mode1Records] at hrest ⊢
  rw [mode1Loop_run ts hp h, mode1Loop_flush hfull, hrest]
  rfl

/-! ### A unit that leaves directly (R96, R97) -/

/-- A unit that fits the budget and is the whole frame leaves as it is, marked: as the candidate where it becomes one, else
directly (R97, R101). -/
theorem mode1Records_of_fits {M : Nat} {n : Bytes} (h : n.length ≤ M) (allow : Bool) (ts : Timestamp) :
    mode1Records M allow ts [n] = some [⟨n, ts, true⟩] := by
  by_cases hcand : allow = true ∧ n.length < M / 2
  · obtain ⟨rfl, hsmall⟩ := hcand
    exact mode1Records_of_run ts hsmall (by simp)
  · have hsent : emitDirect M ts n (lastMarker []) = some [⟨n, ts, true⟩] := by
      rw [emitDirect_eq_directPayloads (.inr h), directPayloads, if_pos h]
      rfl
    rw [mode1Records, mode1Loop_sendDirect (fun ha hs => hcand ⟨ha, hs⟩), hsent]
    rfl

/-- A unit sent directly gives its own payloads, with the end-of-frame flag if nothing follows, in front of what the rest of the
frame gives (R97). -/
theorem mode1Records_of_direct {M : Nat} {n : Bytes} (hbig : M / 2 ≤ n.length) (h : 3 ≤ M ∨ n.length ≤ M) (ts : Timestamp)
    {rest : List Bytes} {recs : List RtpRecord} (hrest : mode1Records M true ts rest = some recs) :
    mode1Records M true ts (n :: rest) = some (directPayloads M ts n (lastMarker rest) ++ recs) := by
  rw [mode1Records] at hrest ⊢
  rw [mode1Loop_direct (by omega), emitDirect_eq_directPayloads h, hrest]
  rfl

theorem directPayloads_unmarked (M : Nat) (ts : Timestamp) (n : Bytes) :
    directPayloads M ts n false = (directPayloads M ts n true).map (fun r => { r with marker := false }) := by
  unfold directPayloads
  split
  · rfl
  · exact fragment_unmarked M ts n true

/-! ### The statements -/

/-- Settles O20: the payloads exist, and each of them is the payload of a run. -/
theorem mode1PackCompletes : Obligations.Mode1PackCompletes := by
  unfold Obligations.Mode1PackCompletes
  intro ts s hl hm hin hport
  obtain ⟨recs, hrecs⟩ := mode1Loop_isSome (fun n hn => (hin n hn).2.2) s.stapAAllowed ts none
  have hpack := exec_pack_mode1_of_units hl hm (fun n hn => ⟨(hin n hn).1, (hin n hn).2.1⟩) hport hrecs
  have hstamped := (mode1Records_framePayloads hrecs).stamped fun n hn => (hin n hn).1
  exact ⟨recs, fun r hr => ⟨(hstamped r hr).ts_eq, (hstamped r hr).nonempty⟩, hpack,
    (exec_packMode1_eq_pack ts hl hm).trans hpack⟩

/-- Settles O23: the frame is one run of two units or more, which ends it. -/
theorem frameThatFitsIsOneStapA : Obligations.FrameThatFitsIsOneStapA := by
  unfold Obligations.FrameThatFitsIsOneStapA
  intro ts s p q rest hl hm hallow hin hne hp hsum hport
  rw [hin, ← stapPayload_length] at hsum
  have hrecs : mode1Records s.maxPayloadSize.toNat s.stapAAllowed ts s.naluIn
      = some [⟨stapPayload p (q :: rest), ts, true⟩] := by
    rw [hallow, hin]
    exact mode1Records_of_run ts hp fun _ => hsum
  have hunits : ∀ n ∈ s.naluIn, n ≠ [] ∧ s.caps.PortAccepts n.length := fun n hn =>
    ⟨hne n hn, fun m hmax => ((length_lt_stapPayload (hin ▸ hn)).trans hsum).le.trans (hport m hmax)⟩
  rw [exec_pack_mode1_of_units hl hm hunits hport hrecs, hin]
  rfl

/-- Settles O24: the run is flushed in front of the payloads that the rest gives as a frame of its own. -/
theorem unitThatDoesNotMergeFlushesTheCandidate : Obligations.UnitThatDoesNotMergeFlushesTheCandidate := by
  unfold Obligations.UnitThatDoesNotMergeFlushesTheCandidate
  intro ts s p qs n rest hl hm hallow hin hunits hport hp hrun hfull run
  rw [List.cons_append, ← stapPayload_length] at hfull
  rw [← stapPayload_length] at hrun
  have hM : 3 ≤ s.maxPayloadSize.toNat := by
    have hpos : 0 < p.length := List.length_pos_iff.mpr (hunits p (by simp [hin])).1
    omega
  obtain ⟨recs, hrest⟩ := mode1Loop_isSome (nalus := n :: rest) (fun _ _ => .inl hM) true ts none
  have hrest' : mode1Records s.maxPayloadSize.toNat s.stapAAllowed ts (n :: rest) = some recs := by rw [hallow]; exact hrest
  have hrecs : mode1Records s.maxPayloadSize.toNat s.stapAAllowed ts s.naluIn = some (⟨run, ts, false⟩ :: recs) := by
    rw [hallow, hin]
    exact mode1Records_of_flushedRun ts hp hrun.resolve_left hfull hrest
  exact ⟨recs,
    exec_pack_mode1_of_units (s := { s with naluIn := n :: rest }) hl hm
      (fun u hu => hunits u (by rw [hin]; exact List.mem_append_right _ hu)) hport hrest',
    exec_pack_mode1_of_units hl hm hunits hport hrecs⟩

/-- Settles O25: whether the unit becomes the candidate or is sent at once, it leaves as it is. -/
theorem loneUnitIsASingleNalPayload : Obligations.LoneUnitIsASingleNalPayload := by
  unfold Obligations.LoneUnitIsASingleNalPayload
  intro ts s n hl hm hin hne hfit hport
  have hrecs : mode1Records s.maxPayloadSize.toNat s.stapAAllowed ts s.naluIn = some [⟨n, ts, true⟩] := by
    rw [hin]
    exact mode1Records_of_fits hfit _ ts
  exact exec_pack_mode1_of_records hl hm (by simpa [hin] using hne) hrecs (by simpa [hin] using hport) (by simpa using hport)

/-- Settles O55: the unit's own payloads differ from those it gives alone in the marker only. -/
theorem directUnitLeavesBeforeTheRestOfItsFrame : Obligations.DirectUnitLeavesBeforeTheRestOfItsFrame := by
  unfold Obligations.DirectUnitLeavesBeforeTheRestOfItsFrame
  intro ts s n rest hl hm hallow hin hne hunits hport hbig
  rw [hin] at hunits
  have hports : ∀ u ∈ n :: rest, u ≠ [] ∧ s.caps.PortAccepts u.length := fun u hu => ⟨(hunits u hu).1, (hunits u hu).2.1⟩
  have hfit := (hunits n List.mem_cons_self).2.2
  obtain ⟨recs, hrest⟩ : ∃ recs, mode1Records s.maxPayloadSize.toNat s.stapAAllowed ts rest = some recs :=
    mode1Loop_isSome (fun u hu => (hunits u (List.mem_cons_of_mem _ hu)).2.2) _ ts none
  have halone : mode1Records s.maxPayloadSize.toNat s.stapAAllowed ts [n]
      = some (directPayloads s.maxPayloadSize.toNat ts n true) := by
    rw [hallow, mode1Records_of_direct hbig hfit ts (rest := []) (recs := []) rfl, List.append_nil]
    rfl
  have hall : mode1Records s.maxPayloadSize.toNat s.stapAAllowed ts s.naluIn
      = some ((directPayloads s.maxPayloadSize.toNat ts n true).map (fun r => { r with marker := false }) ++ recs) := by
    have hlast : lastMarker rest = false := List.isEmpty_eq_false_iff.mpr hne
    rw [hallow] at hrest ⊢
    rw [hin, mode1Records_of_direct hbig hfit ts hrest, hlast, directPayloads_unmarked]
  refine ⟨_, recs, exec_pack_mode1_of_units (s := { s with naluIn := [n] }) hl hm ?_ hport halone,
    exec_pack_mode1_of_units (s := { s with naluIn := rest }) hl hm ?_ hport hrest, ?_⟩
  · exact fun u hu => hports u (List.mem_cons.mpr (.inl (List.mem_singleton.mp hu)))
  · exact fun u hu => hports u (List.mem_cons_of_mem _ hu)
  · rw [exec_pack_mode1_of_units hl hm (hin ▸ hports) hport hall, List.append_assoc]

/-- Settles O14: with a Context each branch is its row; without one all four rows are refused alike. -/
theorem packDispatchesOnTheMode : Obligations.PackDispatchesOnTheMode := by
  unfold Obligations.PackDispatchesOnTheMode
  intro ts s
  cases hl : s.live with
  | false =>
    have h0 : exec (.packMode0 ts) s = .refused .noContext := whileLive_dead _ hl
    have h1 : exec (.packMode1 ts) s = .refused .noContext := whileLive_dead _ hl
    have hbad : exec (.packBadMode ts) s = .refused .noContext := whileLive_dead _ hl
    rw [exec_pack_dead hl, h0, h1, hbad, ite_self, ite_self]
  | true =>
    split
    · rename_i hm
      rw [exec_pack_of_mode0 ts hl hm, exec_packMode0_of_mode0 ts hl hm]
    · split
      · rename_i hm
        exact (exec_packMode1_eq_pack ts hl hm).symm
      · rename_i h0 h1
        rw [exec_pack_of_badMode ts hl h0 h1, exec_packBadMode_of_badMode ts hl h0 h1]

/-- Settles O15. -/
theorem packRowsStopOutsideTheirMode : Obligations.PackRowsStopOutsideTheirMode := by
  unfold Obligations.PackRowsStopOutsideTheirMode
  exact fun ts _ hl =>
    ⟨exec_packMode0_of_other ts hl, exec_packMode1_of_other ts hl, exec_packBadMode_of_other ts hl⟩

end Sys2Proof.Machine
end

-- ==== Proofs of the family other: step 3 of unpack and its rows ====
section
/-! PROOF. The payload and fragment rows as step 3 of `unpack` (R111, R115, R120), what step 3 leaves on each of its paths, and when it
is refused for want of storage (R44); then the state table of R130, read off those effects. -/

namespace Sys2Proof.Machine

/-! ### The rows are step 3 (R111, R115) -/

/-- The rows of the 32 types run three meanings (R53, R58). -/
theorem exec_payloadRow_eq_ite (ty : BitVec 5) (f : BitVec 1) (nri : BitVec 2) (rest : Bytes) (s : State) :
    exec (payloadRow ty f nri rest) s =
      if ty = 24 then execPayloadStapA f nri rest s
      else if ty = 28 then execPayloadFuA f nri rest s
      else runSingleRow ty f nri rest s := by
  obtain ⟨⟨k, hk⟩⟩ := ty
  interval_cases k <;> rfl

theorem exec_payloadRow_of_single {ty : BitVec 5} (h24 : ty ≠ 24) (h28 : ty ≠ 28) (f : BitVec 1) (nri : BitVec 2)
    (rest : Bytes) (s : State) : exec (payloadRow ty f nri rest) s = runSingleRow ty f nri rest s := by
  rw [exec_payloadRow_eq_ite, if_neg h24, if_neg h28]

/-- A payload row is step 3 on the payload that it stands for. -/
theorem exec_payloadRow (ty : BitVec 5) (f : BitVec 1) (nri : BitVec 2) (rest : Bytes) (s : State) :
    exec (payloadRow ty f nri rest) s = whileLive s (unpackPayload (payloadBytes ty f nri rest) s) := by
  by_cases h24 : ty = 24
  · have hclass : classOf (headerByte f nri ty) = .stapA := by simp [classOf, h24]
    simp only [unpackPayload, payloadBytes, hclass]
    rw [h24]
    rfl
  by_cases h28 : ty = 28
  · have hclass : classOf (headerByte f nri ty) = .fuA := by simp [classOf, h28]
    simp only [unpackPayload, payloadBytes, hclass]
    rw [h28]
    rfl
  rw [exec_payloadRow_of_single h24 h28, payloadBytes, unpackPayload_of_single (by simpa using h24) (by simpa using h28)]
  rfl

theorem exec_of_decodePayload {b : Bytes} {i : Instr} (h : decodePayload b = .ok i) {s : State} (hl : s.live = true) :
    exec i s = unpackPayload b s := by
  obtain ⟨ty, f, nri, rest, rfl, rfl⟩ := decodePayload_ok h
  exact (exec_payloadRow ty f nri rest s).trans (whileLive_live _ hl)

/-- An FU-A payload with an FU header is UNPACK_FU_A on its fields (R120). -/
theorem exec_payloadFuA_cons (f : BitVec 1) (nri : BitVec 2) (fh : Byte) (data : Bytes) (s : State) :
    exec (.payloadFuA f nri (fh :: data)) s
      = whileLive s (runFuA (fuStart fh) (fuEnd fh) (hdr nri (fuType fh)) data s) := by
  have hrow : exec (.payloadFuA f nri (fh :: data)) s
      = whileLive s (runFuA (fuStart fh) (fuEnd fh) (hdr (nalNri (headerByte f nri 28)) (fuType fh)) data s) := rfl
  rw [hrow, nalNri_headerByte]

theorem exec_fuARow (start stop : Bool) (f : BitVec 1) (nri : BitVec 2) (r : BitVec 1) (ftype : BitVec 5) (data : Bytes)
    (s : State) :
    exec (fuARow start stop f nri r ftype data) s = whileLive s (runFuA start stop (hdr nri ftype) data s) := by
  cases start <;> cases stop <;> rfl

/-- Only a Start fragment rebuilds a header byte (R121, R123). -/
theorem runFuA_continue_header (stop : Bool) (header header' : Byte) (data : Bytes) (s : State) :
    runFuA false stop header data s = runFuA false stop header' data s := rfl

/-! ### What step 3 leaves -/

/-- What step 3 writes: CTX.reasm, the units pushed on CTX.pending, the events pushed. -/
def depacketized (reasm : Option Bytes) (units : List Bytes) (evs : List EventCode) (s : State) : State :=
  { s with reasm := reasm, pending := s.pending ++ units, evtOut := s.evtOut ++ evs }

/-- The event of a payload that is no fragment: a reassembly in progress is lost (R118, R128). -/
def dropEvents (reasm : Option Bytes) : List EventCode := if reasm.isSome then [codeFuADiscontinued] else []

/-- The unit that is in progress after a fragment's first part (R121, R123). -/
def fuAUnit (start : Bool) (header : Byte) (data : Bytes) (reasm : Option Bytes) : Option Bytes :=
  if start then some (header :: data) else reasm.map (fun u => u ++ data)

/-- The unit in progress, if there is one, is a begun one or an extended one. -/
theorem eq_of_mem_fuAUnit {start : Bool} {header : Byte} {data : Bytes} {reasm : Option Bytes} {u : Bytes}
    (h : u ∈ fuAUnit start header data reasm) : u = if start then header :: data else reasm.getD [] ++ data := by
  cases start with
  | true =>
    cases h
    rfl
  | false =>
    obtain ⟨v, rfl, rfl⟩ := Option.map_eq_some_iff.mp h
    rfl

/-- The event of a fragment: a nested Start, or a fragment with no Start before it (R122, R124). -/
def fuAEvents (start : Bool) (reasm : Option Bytes) : List EventCode :=
  if start then (if reasm.isSome then [codeFuANestedStart] else []) else (if reasm.isSome then [] else [codeFuANoStart])

theorem fuA_firstPart_eq (start : Bool) (header : Byte) (data : Bytes) (s : State) :
    (if start then fuAStartPart header data s else fuAContinuePart data s)
      = { s with reasm := fuAUnit start header data s.reasm, evtOut := s.evtOut ++ fuAEvents start s.reasm } := by
  cases start with
  | true => exact fuAStartPart_eq header data s
  | false =>
    cases h : s.reasm with
    | none => simp [fuAContinuePart_of_none h, fuAUnit, fuAEvents, h]
    | some u => simp [fuAContinuePart_of_some h, fuAUnit, fuAEvents]

theorem fuAEndPart_eq (s : State) : fuAEndPart s = { s with reasm := none, pending := s.pending ++ s.reasm.toList } := by
  cases h : s.reasm with
  | none =>
    rw [fuAEndPart_of_none h, Option.toList_none, List.append_nil, ← h]
  | some u => simp [fuAEndPart_of_some h]

/-- A fragment's two parts together: the unit in progress is kept, or with E set pushed (R120). -/
theorem fuA_parts_eq (start stop : Bool) (header : Byte) (data : Bytes) (s : State) :
    let first := if start then fuAStartPart header data s else fuAContinuePart data s
    let unit := fuAUnit start header data s.reasm
    (if stop then fuAEndPart first else first)
      = depacketized (if stop then none else unit) (if stop then unit.toList else []) (fuAEvents start s.reasm) s := by
  dsimp only
  rw [fuA_firstPart_eq, fuAEndPart_eq]
  cases stop <;> simp [depacketized]

/-! ### When step 3 is within the capacities (R44) -/

theorem pendingAdmits_iff (caps : Capacities) (q units : List Bytes) :
    pendingAdmits caps q units = true
      ↔ units = [] ∨ ((∀ u ∈ units, caps.PortAccepts u.length) ∧ caps.PendingHolds (q ++ units)) := by
  simp only [pendingAdmits, Bool.or_eq_true, Bool.and_eq_true, List.isEmpty_iff, List.all_eq_true, admitsLength_iff,
    withinCap_iff, totalBytes, and_assoc]

theorem reasmAdmits_iff (caps : Capacities) (r : Option Bytes) :
    reasmAdmits caps r = true ↔ ∀ u ∈ r, caps.ReasmHolds u.length := by
  refine ⟨fun h u hu => ?_, reasmAdmits_of_holds⟩
  cases hu
  exact (withinCap_iff ..).mp h

theorem unpackSingle_of_overCapacity {b : Bytes} {s : State}
    (h : ¬ s.caps.PortAccepts b.length ∨ ¬ s.caps.PendingHolds (s.pending ++ [b])) :
    unpackSingle b s = .refused .overCapacity := by
  refine if_neg fun hadmits => ?_
  rw [Bool.and_eq_true, admitsLength_iff, pendingAdmits_iff] at hadmits
  obtain ⟨hport, hone | ⟨-, hpend⟩⟩ := hadmits
  · exact List.cons_ne_nil _ _ hone
  · exact h.elim (· hport) (· hpend)

/-- A STAP-A payload that is too long, or whose members CTX.pending cannot hold. -/
theorem unpackStapA_of_overCapacity {b : Bytes} {us : List Bytes} {malformed : Bool} {s : State}
    (hwalk : stapWalk b.length (b.drop 1) = (us, malformed))
    (h : ¬ s.caps.PortAccepts b.length ∨ (us ≠ [] ∧ ¬ s.caps.PendingHolds (s.pending ++ us))) :
    unpackStapA b s = .refused .overCapacity := by
  rw [unpackStapA, hwalk]
  refine if_neg fun hadmits => ?_
  rw [Bool.and_eq_true, admitsLength_iff, pendingAdmits_iff] at hadmits
  obtain ⟨hport, hpend⟩ := hadmits
  rcases h with hno | ⟨hne, hno⟩
  · exact hno hport
  · exact hno (hpend.resolve_left hne).2

/-- A fragment with `data`, and the unit in progress after it, stay within the capacities. -/
structure FuAFits (caps : Capacities) (pending : List Bytes) (stop : Bool) (data : Bytes) (unit : Option Bytes) : Prop where
  port : caps.PortAccepts (data.length + 2)
  reasm : ∀ u ∈ unit, caps.ReasmHolds u.length
  ended : stop = true → ∀ u ∈ unit, caps.PortAccepts u.length ∧ caps.PendingHolds (pending ++ [u])

theorem runFuA_of_fits {start stop : Bool} {header : Byte} {data : Bytes} {s : State}
    (h : FuAFits s.caps s.pending stop data (fuAUnit start header data s.reasm)) :
    let unit := fuAUnit start header data s.reasm
    runFuA start stop header data s
      = .next (depacketized (if stop then none else unit) (if stop then unit.toList else []) (fuAEvents start s.reasm) s) := by
  have hfirst := fuA_firstPart_eq start header data s
  rw [runFuA_of_holds hfirst h.port h.reasm h.ended, ← hfirst]
  exact congrArg _ (fuA_parts_eq start stop header data s)

theorem runFuA_of_overCapacity {start stop : Bool} {header : Byte} {data : Bytes} {s : State}
    (h : ¬ FuAFits s.caps s.pending stop data (fuAUnit start header data s.reasm)) :
    runFuA start stop header data s = .refused .overCapacity := by
  simp only [runFuA, fuA_firstPart_eq, Bool.and_eq_true, admitsLength_iff, reasmAdmits_iff]
  split
  · rename_i hfits
    obtain ⟨hport, hreasm⟩ := hfits
    have hend : ¬ (stop = true → ∀ u ∈ fuAUnit start header data s.reasm,
        s.caps.PortAccepts u.length ∧ s.caps.PendingHolds (s.pending ++ [u])) := fun hend => h ⟨hport, hreasm, hend⟩
    obtain ⟨rfl, hunit⟩ := Classical.not_imp.mp hend
    rw [if_pos rfl, if_neg]
    rw [pendingAdmits_iff]
    cases hu : fuAUnit start header data s.reasm with
    | none => simp [hu] at hunit
    | some u => simpa [hu] using hunit
  · rfl

/-! ### Step 3 where it completes -/

theorem unpackSingle_depacketized {b : Bytes} {s t : State} (h : unpackSingle b s = .next t) :
    t = depacketized none [b] (dropEvents s.reasm) s := by
  obtain ⟨-, -, rfl⟩ := unpackSingle_next h
  rw [dropReassembly_eq]
  rfl

theorem unpackStapA_depacketized {b : Bytes} {s t : State} (h : unpackStapA b s = .next t) :
    let walk := stapWalk b.length (b.drop 1)
    t = depacketized none walk.1 (dropEvents s.reasm ++ if walk.2 then [codeStapAMalformed] else []) s := by
  obtain ⟨-, -, ht⟩ := unpackStapA_next h
  rw [ht, dropReassembly_eq]
  generalize stapWalk b.length (b.drop 1) = walk
  obtain ⟨us, malformed⟩ := walk
  cases malformed <;> simp [depacketized, dropEvents, pushPending, pushEvent]

theorem runFuA_depacketized {start stop : Bool} {header : Byte} {data : Bytes} {s t : State}
    (h : runFuA start stop header data s = .next t) :
    let unit := fuAUnit start header data s.reasm
    FuAFits s.caps s.pending stop data unit
      ∧ t = depacketized (if stop then none else unit) (if stop then unit.toList else []) (fuAEvents start s.reasm) s := by
  by_cases hfits : FuAFits s.caps s.pending stop data (fuAUnit start header data s.reasm)
  · rw [runFuA_of_fits hfits] at h
    cases h
    exact ⟨hfits, rfl⟩
  · rw [runFuA_of_overCapacity hfits] at h
    cases h

/-- What step 3 may write on CTX.reasm and CTX.pending: nothing beyond the capacities, and no empty reassembly unless there was one
(R16, R44). -/
structure Step3Writes (s : State) (reasm : Option Bytes) (units : List Bytes) : Prop where
  reasm_ne : s.reasm ≠ some [] → reasm ≠ some []
  reasmHolds : ∀ u ∈ reasm, s.caps.ReasmHolds u.length
  pendingAdmits : pendingAdmits s.caps s.pending units = true

theorem step3Writes_of_fuAFits {start stop : Bool} {header : Byte} {data : Bytes} {s : State}
    (h : FuAFits s.caps s.pending stop data (fuAUnit start header data s.reasm)) :
    let unit := fuAUnit start header data s.reasm
    Step3Writes s (if stop then none else unit) (if stop then unit.toList else []) := by
  cases stop with
  | true =>
    refine ⟨fun _ => nofun, nofun, (pendingAdmits_iff ..).mpr ?_⟩
    cases hu : fuAUnit start header data s.reasm with
    | none => exact .inl rfl
    | some u =>
      obtain ⟨hport, hpend⟩ := h.ended rfl u hu
      exact .inr ⟨by simpa using hport, hpend⟩
  | false =>
    refine ⟨fun hne => ?_, h.reasm, rfl⟩
    cases start with
    | true => simp [fuAUnit]
    | false =>
      cases hr : s.reasm with
      | none => simp [fuAUnit]
      | some u =>
        have hu : u ≠ [] := fun hu => hne (by rw [hr, hu])
        simp [fuAUnit, hu]

/-- Whatever the payload's class, a completed step 3 was within the capacities and wrote three fields. -/
theorem unpackPayload_next {b : Bytes} {s t : State} (h : unpackPayload b s = .next t) :
    s.caps.PortAccepts b.length
      ∧ ∃ reasm units evs, Step3Writes s reasm units ∧ t = depacketized reasm units evs s := by
  cases b with
  | nil => cases h
  | cons hd body =>
    simp only [unpackPayload] at h
    split at h
    · obtain ⟨hport, hpend, -⟩ := unpackStapA_next h
      exact ⟨(admitsLength_iff ..).mp hport, none, _, _, ⟨fun _ => nofun, nofun, hpend⟩, unpackStapA_depacketized h⟩
    · cases body with
      | nil => cases h
      | cons fh data =>
        obtain ⟨hfits, ht⟩ := runFuA_depacketized h
        exact ⟨hfits.port, _, _, _, step3Writes_of_fuAFits hfits, ht⟩
    · obtain ⟨hport, hpend, -⟩ := unpackSingle_next h
      exact ⟨(admitsLength_iff ..).mp hport, none, _, _, ⟨fun _ => nofun, nofun, hpend⟩, unpackSingle_depacketized h⟩

/-! ### `unpack` around step 3 -/

theorem exec_unpack_next {a : BitVec 32} {s t : State} {r : RtpRecord} {rest : List RtpRecord} (hin : s.rtpIn = r :: rest)
    (h : exec (.unpack a) s = .next t) :
    ∃ u, unpackPayload r.bytes (preCheck r.ts { s with rtpIn := rest }) = .next u ∧ t = markerStep r.marker r.ts u := by
  obtain ⟨hl, -⟩ := execUnpack_next (arg := a) h
  rw [exec_unpack_of_record hl hin] at h
  exact thenNext_next h

/-- A flush moves units from CTX.pending to NALU_OUT, so that both together stay as they are (R112). -/
theorem preCheck_naluOut_pending (ts : Timestamp) (s : State) :
    (preCheck ts s).naluOut ++ (preCheck ts s).pending = s.naluOut ++ s.pending := by
  rw [preCheck_eq]
  cases preCheckActs ts s <;> simp

theorem markerStep_naluOut_pending (m : Bool) (ts : Timestamp) (s : State) :
    (markerStep m ts s).naluOut ++ (markerStep m ts s).pending = s.naluOut ++ s.pending := by
  rw [markerStep_eq]
  cases m <;> simp

/-- A step 3 that is refused refuses the `unpack`, whatever the payload's marker. -/
theorem exec_unpack_refused {s : State} {r : RtpRecord} {rest : List RtpRecord} {e : Refusal} (hl : s.live = true)
    (hin : s.rtpIn = r :: rest) (h : unpackPayload r.bytes (preCheck r.ts { s with rtpIn := rest }) = .refused e) (a : BitVec 32) :
    exec (.unpack a) s = .refused e := by
  rw [exec_unpack_of_record hl hin, receive, h]
  rfl

/-! ### The columns of R130's table -/

/-- The table's columns but the state after: what CTX.reasm holds, the events pushed, the units pushed. -/
structure UnpackEffect (s t : State) (reasm : Option Bytes) (units : List Bytes) (evs : List EventCode) : Prop where
  reasm_eq : t.reasm = reasm
  evtOut_eq : t.evtOut = s.evtOut ++ evs
  pushed : t.naluOut ++ t.pending = s.naluOut ++ s.pending ++ units

/-- Steps 1 and 4 flush, and leave the columns to step 3. -/
theorem unpackEffect_of_step3 (m : Bool) (ts : Timestamp) (s : State) (rest : List RtpRecord) (reasm : Option Bytes)
    (units : List Bytes) (evs : List EventCode) :
    UnpackEffect s (markerStep m ts (depacketized reasm units evs (preCheck ts { s with rtpIn := rest }))) reasm units evs where
  reasm_eq := markerStep_reasm ..
  evtOut_eq := by
    rw [markerStep_evtOut, depacketized, preCheck_evtOut]
  pushed := by
    have hpre := preCheck_naluOut_pending ts { s with rtpIn := rest }
    rw [markerStep_naluOut_pending, depacketized, ← List.append_assoc, hpre]

section Columns

variable {a : BitVec 32} {s t : State} {r : RtpRecord} {rest : List RtpRecord} {h : Byte}
  (hin : s.rtpIn = r :: rest) (hnext : exec (.unpack a) s = .next t)
include hin hnext

theorem unpackEffect_single {body : Bytes} (hb : r.bytes = h :: body) (h24 : nalType h ≠ 24) (h28 : nalType h ≠ 28) :
    UnpackEffect s t none [h :: body] (dropEvents s.reasm) := by
  obtain ⟨u, hu, rfl⟩ := exec_unpack_next hin hnext
  rw [hb, unpackPayload_of_single h24 h28] at hu
  rw [unpackSingle_depacketized hu, preCheck_reasm]
  exact unpackEffect_of_step3 ..

theorem unpackEffect_stapA {body : Bytes} (hb : r.bytes = h :: body) (h24 : nalType h = 24) :
    let walk := stapWalk (body.length + 1) body
    UnpackEffect s t none walk.1 (dropEvents s.reasm ++ if walk.2 then [codeStapAMalformed] else []) := by
  obtain ⟨u, hu, rfl⟩ := exec_unpack_next hin hnext
  have hclass : classOf h = .stapA := by simp [classOf, h24]
  simp only [hb, unpackPayload, hclass] at hu
  rw [unpackStapA_depacketized hu, preCheck_reasm]
  exact unpackEffect_of_step3 ..

/-- A fragment that `unpack` completes on has its FU header (R132). -/
theorem unpackEffect_fuA {body : Bytes} (hb : r.bytes = h :: body) (h28 : nalType h = 28) :
    ∃ fh data, body = fh :: data ∧
      let unit := fuAUnit (fuStart fh) (hdr (nalNri h) (fuType fh)) data s.reasm
      UnpackEffect s t (if fuEnd fh then none else unit) (if fuEnd fh then unit.toList else []) (fuAEvents (fuStart fh) s.reasm) := by
  obtain ⟨u, hu, rfl⟩ := exec_unpack_next hin hnext
  have hclass : classOf h = .fuA := by simp [classOf, h28]
  simp only [hb, unpackPayload, hclass] at hu
  cases body with
  | nil => cases hu
  | cons fh data =>
    obtain ⟨-, rfl⟩ := runFuA_depacketized hu
    refine ⟨fh, data, rfl, ?_⟩
    rw [preCheck_reasm]
    exact unpackEffect_of_step3 ..

end Columns

/-- The table's condition on the state before, as CTX.reasm has it (R18). -/
theorem ite_depacketizer_idle {α : Type} (s : State) (x y : α) :
    (if depacketizer s = .idle then x else y) = if s.reasm.isSome then y else x := by
  simp only [depacketizer_eq_idle_iff]
  cases s.reasm <;> rfl

theorem depacketizer_eq (s : State) : depacketizer s = if s.reasm.isSome then .reassemblingFuA else .idle := by
  unfold depacketizer
  cases s.reasm <;> rfl

/-- The table's state after: Idle with E set, else whatever the unit in progress makes it. -/
theorem depacketizer_of_ended {t : State} {stop : Bool} {unit : Option Bytes} (h : t.reasm = if stop then none else unit) :
    depacketizer t = if stop then .idle else if unit.isSome then .reassemblingFuA else .idle := by
  rw [depacketizer_eq, h]
  cases stop <;> rfl

/-- A fragment without Start begins no unit and ends none (R123, R124). -/
theorem isSome_fuAUnit_continue (header : Byte) (data : Bytes) (reasm : Option Bytes) :
    (fuAUnit false header data reasm).isSome = reasm.isSome := Option.isSome_map

/-! ### The statements -/

/-- Settles O42: the three classes of payload, and for a fragment its S bit; the columns are those of step 3. -/
theorem unpackFollowsTheStateTable : Obligations.UnpackFollowsTheStateTable := by
  unfold Obligations.UnpackFollowsTheStateTable
  intro a s t r rest h body hin hb hnext S E data was dropped Pushed
  have hdropped : dropped = dropEvents s.reasm := ite_depacketizer_idle s _ _
  refine ⟨fun h24 h28 => ?_, fun h24 => ?_, fun h28 hS => ?_, fun h28 hS => ?_⟩
  · have heffect := unpackEffect_single hin hnext hb h24 h28
    exact ⟨(depacketizer_eq_idle_iff t).mpr heffect.reasm_eq, hdropped ▸ heffect.evtOut_eq, heffect.pushed⟩
  · have heffect := unpackEffect_stapA hin hnext hb h24
    obtain ⟨hsize, bad, hbody, htail⟩ := stapWalk_spec (body.length + 1) body (Nat.le_succ _)
    refine ⟨(depacketizer_eq_idle_iff t).mpr heffect.reasm_eq, _, bad, hsize, hbody, heffect.pushed, ?_⟩
    have hevents := heffect.evtOut_eq
    rw [← hdropped] at hevents
    rcases htail with ⟨hwhole, hbad⟩ | ⟨hmalformed, hbad⟩
    · exact .inl ⟨hbad, by simpa [hwhole] using hevents⟩
    · exact .inr ⟨hbad, by simpa [hmalformed, codeStapAMalformed] using hevents⟩
  · obtain ⟨fh, d, rfl, heffect⟩ := unpackEffect_fuA hin hnext hb h28
    rw [show fuStart fh = true from hS] at heffect
    obtain ⟨hreasm, hevents, hpushed⟩ := heffect
    refine ⟨depacketizer_of_ended hreasm, hreasm, ?_, hpushed⟩
    rw [hevents, ite_depacketizer_idle]
    rfl
  · obtain ⟨fh, d, rfl, heffect⟩ := unpackEffect_fuA hin hnext hb h28
    rw [show fuStart fh = false from hS] at heffect
    obtain ⟨hreasm, hevents, hpushed⟩ := heffect
    have hafter := depacketizer_of_ended hreasm
    rw [isSome_fuAUnit_continue, ← depacketizer_eq] at hafter
    refine ⟨hafter, hreasm, ?_, hpushed⟩
    rw [hevents, ite_depacketizer_idle]
    rfl

/-- Settles O30: the row is step 3 on the payload, and step 1 does not touch the Context's life. -/
theorem unpackRunsThePayloadRow : Obligations.UnpackRunsThePayloadRow := by
  unfold Obligations.UnpackRunsThePayloadRow
  intro a s r rest i hl hin hrow
  have hl' : (preCheck r.ts { s with rtpIn := rest }).live = true := (preCheck_live ..).trans hl
  rw [exec_unpack_of_record hl hin, exec_of_decodePayload hrow hl']
  rfl

/-- Settles O40: payload row and fragment row run UNPACK_FU_A with the same bits. -/
theorem fuAPayloadIsItsFragment : Obligations.FuAPayloadIsItsFragment := by
  unfold Obligations.FuAPayloadIsItsFragment
  intro f nri fh data s hl i unit
  refine ⟨(exec_payloadFuA_cons f nri fh data s).trans (exec_fuARow ..).symm, fun hport hreasm haccepts hpend => ?_,
    whileLive_live _ hl⟩
  have hunit : ∀ u ∈ fuAUnit (fuStart fh) (hdr nri (fuType fh)) data s.reasm, u = unit := fun _ hu => eq_of_mem_fuAUnit hu
  rw [exec_payloadFuA_cons, whileLive_live _ hl, runFuA_of_fits]
  · exact ⟨_, rfl⟩
  · exact ⟨hport, fun u hu => hunit u hu ▸ hreasm, fun _ u hu => hunit u hu ▸ ⟨haccepts, hpend⟩⟩

/-- Settles O41: the rows hand on only the fields that the rules read, and the rebuilt header is read with Start alone. -/
theorem ignoredBitsDoNotMatter : Obligations.IgnoredBitsDoNotMatter := by
  unfold Obligations.IgnoredBitsDoNotMatter
  intro f f' nri nri' r r' ty ty' b s
  refine ⟨rfl, ?_, rfl, congrArg (whileLive s) (runFuA_continue_header false (hdr nri ty) (hdr nri' ty') b s),
    congrArg (whileLive s) (runFuA_continue_header true (hdr nri ty) (hdr nri' ty') b s), rfl⟩
  cases b with
  | nil => rfl
  | cons fh data => rw [exec_payloadFuA_cons, exec_payloadFuA_cons]

end Sys2Proof.Machine
end

-- ==== Proofs of the family other: what the capacities refuse ====
section
/-! PROOF. The refusals for want of storage (R44, R161): of `pack` through the commit that both modes share, of the payload rows through
step 3 of `unpack`. -/

namespace Sys2Proof.Machine

/-- A meaning that cannot complete is refused, since there is no fault (R158). -/
theorem refused_of_not_next {r : Result} (h : ∀ t, r ≠ .next t) : ∃ e, r = .refused e := by
  cases r with
  | next t => exact absurd rfl (h t)
  | fault e => nomatch e
  | refused e => exact ⟨e, rfl⟩

/-! ### `pack` -/

/-- In mode 0 and 1 `pack` commits payloads and events that do not depend on the capacities. -/
theorem exec_pack_commits {s : State} (hl : s.live = true) (hm : s.mode = 0 ∨ s.mode = 1) (ts : Timestamp) :
    ∃ out evs, ∀ caps, exec (.pack ts) { s with caps := caps } = packCommit out evs { s with caps := caps } := by
  rcases hm with hm | hm
  · exact ⟨some (mode0Records ts s.naluIn), mode0Events s.maxPayloadSize.toNat s.naluIn,
      fun caps => exec_pack_of_mode0 (s := { s with caps := caps }) ts hl hm⟩
  · exact ⟨mode1Records s.maxPayloadSize.toNat s.stapAAllowed ts s.naluIn, [],
      fun caps => exec_pack_of_mode1 (s := { s with caps := caps }) ts hl hm⟩

/-- What a completed `pack` has done: in a bad mode one event, else a commit within the capacities (R81, R82, R44). -/
theorem exec_pack_next {ts : Timestamp} {s t : State} (h : exec (.pack ts) s = .next t) :
    (s.mode ≠ 0 ∧ s.mode ≠ 1 ∧ t = pushEvent codeBadMode s)
    ∨ ∃ rs evs, packAdmits s.caps s.naluIn rs = true ∧ t = pushEvents evs (emitRecords rs (drainNaluIn s)) := by
  obtain ⟨-, ⟨-, h⟩ | ⟨-, h⟩ | hbad⟩ := execPack_next h
  · obtain ⟨-, rs, -, hadmits, ht⟩ := packCommit_next h
    exact .inr ⟨rs, _, hadmits, ht⟩
  · obtain ⟨-, rs, -, hadmits, ht⟩ := packCommit_next h
    exact .inr ⟨rs, _, hadmits, ht⟩
  · exact .inl hbad

theorem packCommit_of_overCapacity {rs : List RtpRecord} {s : State} (evs : List EventCode)
    (hne : s.naluIn.any List.isEmpty = false) (h : ∃ r ∈ rs, ¬ s.caps.PortAccepts r.bytes.length) :
    packCommit (some rs) evs s = .refused .overCapacity := by
  obtain ⟨r, hr, hport⟩ := h
  have hadmits : ¬ packAdmits s.caps s.naluIn rs = true := fun hadmits => hport (((packAdmits_iff ..).mp hadmits).2 r hr)
  exact (if_neg (Bool.eq_false_iff.mp hne)).trans (if_neg hadmits)

/-- A queued unit longer than NAL_MAX_LEN refuses the `pack`. -/
theorem exec_pack_of_longUnit {s : State} (hm : s.mode = 0 ∨ s.mode = 1) {n : Bytes} (hn : n ∈ s.naluIn)
    (hport : ¬ s.caps.PortAccepts n.length) (ts : Timestamp) : ∃ e, exec (.pack ts) s = .refused e := by
  refine refused_of_not_next fun t h => ?_
  rcases exec_pack_next h with ⟨h0, h1, -⟩ | ⟨rs, evs, hadmits, -⟩
  · exact hm.elim h0 h1
  · exact hport (((packAdmits_iff ..).mp hadmits).1 n hn)

/-- A payload longer than NAL_MAX_LEN refuses the `pack`: it is one of those that `pack` pushes where nothing is too long. -/
theorem exec_pack_of_longPayload {ts : Timestamp} {s t : State} (hl : s.live = true)
    (h : exec (.pack ts) { s with caps := Capacities.unbounded } = .next t)
    (hlong : ∃ r ∈ t.rtpOut.drop s.rtpOut.length, ¬ s.caps.PortAccepts r.bytes.length) :
    exec (.pack ts) s = .refused .overCapacity := by
  by_cases hm : s.mode = 0 ∨ s.mode = 1
  · obtain ⟨out, evs, hcommit⟩ := exec_pack_commits hl hm ts
    rw [hcommit] at h
    obtain ⟨hne, rs, rfl, -, rfl⟩ := packCommit_next h
    have hpushed : ∃ r ∈ rs, ¬ s.caps.PortAccepts r.bytes.length := by simpa using hlong
    exact (hcommit s.caps).trans (packCommit_of_overCapacity evs hne hpushed)
  · obtain ⟨h0, h1⟩ := not_or.mp hm
    rw [exec_pack_of_badMode (s := { s with caps := Capacities.unbounded }) ts hl h0 h1] at h
    cases h
    simp at hlong

/-! ### The payload rows and `unpack` -/

/-- The members of a STAP-A body are its walk, whether or not a malformed tail follows them (R116, R117). -/
theorem stapWalk_members_tail {us : List Bytes} (hus : ∀ u ∈ us, u.length < 65536) {bad : Bytes}
    (hbad : bad = [] ∨ MalformedTail bad) {fuel : Nat} (hfuel : (us.flatMap stapMember ++ bad).length ≤ fuel) :
    ∃ malformed, stapWalk fuel (us.flatMap stapMember ++ bad) = (us, malformed) := by
  rcases hbad with rfl | hbad
  · rw [List.append_nil] at hfuel ⊢
    exact ⟨_, stapWalk_members us hus fuel hfuel⟩
  · exact ⟨_, stapWalk_members_malformedTail hus hbad hfuel⟩

/-- A fragment that is too long, or whose unit CTX.reasm or, with E set, CTX.pending cannot hold. -/
theorem not_fuAFits {caps : Capacities} {pending : List Bytes} {stop : Bool} {data : Bytes} {unit : Option Bytes}
    (h : ¬ caps.PortAccepts (data.length + 2)
      ∨ ∃ u ∈ unit, ¬ caps.ReasmHolds u.length
          ∨ (stop = true ∧ (¬ caps.PortAccepts u.length ∨ ¬ caps.PendingHolds (pending ++ [u])))) :
    ¬ FuAFits caps pending stop data unit := by
  intro hfits
  rcases h with hport | ⟨u, hu, hreasm | ⟨hstop, hend⟩⟩
  · exact hport hfits.port
  · exact hreasm (hfits.reasm u hu)
  · obtain ⟨hport, hpend⟩ := hfits.ended hstop u hu
    exact hend.elim (· hport) (· hpend)

theorem exec_unpack_of_longPayload {s : State} {r : RtpRecord} {rest : List RtpRecord} (hin : s.rtpIn = r :: rest)
    (hport : ¬ s.caps.PortAccepts r.bytes.length) (a : BitVec 32) : ∃ e, exec (.unpack a) s = .refused e := by
  refine refused_of_not_next fun t h => ?_
  obtain ⟨u, hu, -⟩ := exec_unpack_next hin h
  obtain ⟨haccepts, -⟩ := unpackPayload_next hu
  rw [preCheck_caps] at haccepts
  exact hport haccepts

theorem preCheck_pending (ts : Timestamp) (s : State) :
    (preCheck ts s).pending = if ts ≠ s.lastTimestamp ∧ s.reasm = none then [] else s.pending := by
  unfold preCheck
  split <;> rfl

/-! ### The statement -/

/-- Settles O46: one rule per class of input; `unpack` is refused with its step 3. -/
theorem overCapacityIsRefused : Obligations.OverCapacityIsRefused := by
  unfold Obligations.OverCapacityIsRefused
  intro s hl
  refine ⟨fun ts n hm hn hport => exec_pack_of_longUnit hm hn hport ts,
    fun ts t h hlong => exec_pack_of_longPayload hl h hlong, fun ty f nri rest h24 h28 hover => ?single,
    fun f nri rest hport => ?stapALong, fun f nri members bad hne hsize hbad hpend => ?stapAMembers,
    ?fuA, fun a r rest hin => ⟨fun hport => exec_unpack_of_longPayload hin hport a,
      fun i hrow hrefused => ?row, fun h body hb h24 h28 hpend => ?unpackSingle⟩⟩
  case single =>
    rw [exec_payloadRow_of_single h24 h28]
    exact (whileLive_live _ hl).trans (unpackSingle_of_overCapacity hover)
  case stapALong =>
    exact (whileLive_live _ hl).trans (unpackStapA_of_overCapacity rfl (.inl hport))
  case stapAMembers =>
    have htail : bad = [] ∨ MalformedTail bad := by
      rcases hbad with hshort | hlong
      · rcases Nat.le_one_iff_eq_zero_or_eq_one.mp hshort with hzero | hone
        · exact .inl (List.length_eq_zero_iff.mp hzero)
        · exact .inr (.inl hone)
      · exact .inr (.inr hlong)
    obtain ⟨malformed, hwalk⟩ := stapWalk_members_tail hsize htail (Nat.le_succ _)
    exact (whileLive_live _ hl).trans
      (unpackStapA_of_overCapacity (b := payloadBytes 24 f nri _) hwalk (.inr ⟨hne, hpend⟩))
  case fuA =>
    intro f nri fh data unit hover
    have hrefused := runFuA_of_overCapacity (start := fuStart fh) (header := hdr nri (fuType fh)) (not_fuAFits hover)
    exact ⟨(exec_payloadFuA_cons ..).trans ((whileLive_live _ hl).trans hrefused),
      (exec_fuARow ..).trans ((whileLive_live _ hl).trans hrefused)⟩
  case row =>
    have hl' : (preCheck r.ts { s with rtpIn := rest }).live = true := (preCheck_live ..).trans hl
    rw [exec_of_decodePayload hrow hl'] at hrefused
    exact exec_unpack_refused hl hin hrefused a
  case unpackSingle =>
    refine exec_unpack_refused hl hin ?_ a
    rw [hb] at hpend ⊢
    rw [unpackPayload_of_single h24 h28]
    refine unpackSingle_of_overCapacity (.inr ?_)
    rw [preCheck_caps, preCheck_pending]
    exact hpend

end Sys2Proof.Machine
end

-- ==== Proofs of the family other: what every step keeps ====
section
/-! PROOF. What a completed command has done, one lemma per command; from it the fields that each command writes (R23), what a step may
do to the queues (R22, R34, R45), and the Context's invariant (R24, R44). Then the fragments of one unit at the receiver (R137). -/

namespace Sys2Proof.Machine

/-! ### What a completed command has done -/

section Completed

variable {s t : State}

theorem exec_init_next {a : BitVec 32} (h : exec (.init a) s = .next t) :
    t = { s with
      live := true, mode := 0, stapAAllowed := true, maxPayloadSize := Config.defaultMaxPayloadSize,
      lastTimestamp := Config.tsSentinel, pending := [], reasm := none } := by
  cases h
  rfl

theorem exec_setMode_next {a : BitVec 32} (h : exec (.setMode a) s = .next t) : s.live = true ∧ t = { s with mode := a } := by
  obtain ⟨hl, h⟩ := whileLive_next h
  cases h
  exact ⟨hl, rfl⟩

theorem exec_enableStapA_next {a : BitVec 32} (h : exec (.enableStapA a) s = .next t) :
    s.live = true ∧ t = { s with stapAAllowed := a != 0 } := by
  obtain ⟨hl, h⟩ := whileLive_next h
  cases h
  exact ⟨hl, rfl⟩

theorem exec_setMaxPayloadSize_next {a : BitVec 32} (h : exec (.setMaxPayloadSize a) s = .next t) :
    s.live = true ∧ ∃ m : BitVec 16, m ≠ 0 ∧ t = { s with maxPayloadSize := m } := by
  obtain ⟨hl, h⟩ := whileLive_next h
  split at h
  · cases h
  · rename_i hrange
    cases h
    refine ⟨hl, _, fun hzero => ?_, rfl⟩
    have hsize := toNat_lowHalf_of_le (arg := a) (by omega)
    rw [hzero] at hsize
    exact hrange (.inl hsize.symm)

theorem exec_uninit_next {a : BitVec 32} (h : exec (.uninit a) s = .next t) :
    s.live = true ∧ t = { s with pending := [], reasm := none, live := false } := by
  obtain ⟨hl, h⟩ := whileLive_next h
  cases h
  exact ⟨hl, rfl⟩

/-- `pack` empties NALU_IN or leaves it, and pushes payloads and events (R81 to R91). -/
theorem exec_pack_queues {ts : Timestamp} (h : exec (.pack ts) s = .next t) :
    ∃ nalus recs evs, nalus <:+ s.naluIn
      ∧ t = { s with naluIn := nalus, rtpOut := s.rtpOut ++ recs, evtOut := s.evtOut ++ evs } := by
  rcases exec_pack_next h with ⟨-, -, rfl⟩ | ⟨recs, evs, -, rfl⟩
  · exact ⟨s.naluIn, [], [codeBadMode], List.suffix_rfl, by simp [pushEvent]⟩
  · exact ⟨[], recs, evs, List.nil_suffix, rfl⟩

/-- `unpack` has taken one payload, and its three steps have written the depacketizer's fields, NALU_OUT and EVT_OUT (R111). -/
theorem exec_unpack_steps {a : BitVec 32} (h : exec (.unpack a) s = .next t) :
    s.live = true ∧ ∃ r rest reasm units evs, s.rtpIn = r :: rest
      ∧ Step3Writes (preCheck r.ts { s with rtpIn := rest }) reasm units
      ∧ t = markerStep r.marker r.ts (depacketized reasm units evs (preCheck r.ts { s with rtpIn := rest })) := by
  obtain ⟨hl, r, rest, u, hin, hu, rfl⟩ := execUnpack_next (arg := a) h
  obtain ⟨-, reasm, units, evs, hwrites, rfl⟩ := unpackPayload_next hu
  exact ⟨hl, r, rest, reasm, units, evs, hin, hwrites, rfl⟩

end Completed

/-- What holds of the eight rows of the command port holds of every word's row (R67). -/
theorem decodeCommand_forall {P : Instr → Prop} (init : ∀ a, P (.init a)) (setMode : ∀ a, P (.setMode a))
    (enableStapA : ∀ a, P (.enableStapA a)) (setMaxPayloadSize : ∀ a, P (.setMaxPayloadSize a)) (pack : ∀ ts, P (.pack ts))
    (unpack : ∀ a, P (.unpack a)) (uninit : ∀ a, P (.uninit a)) (reservedOp7 : ∀ a, P (.reservedOp7 a)) (w : CommandWord) :
    P (decodeCommand w) := by
  unfold decodeCommand
  split
  · exact init _
  · exact setMode _
  · exact enableStapA _
  · exact setMaxPayloadSize _
  · exact pack _
  · exact unpack _
  · exact uninit _
  · exact reservedOp7 _

/-- A completed step was idle or has run one command to its end (R19, R40, R67). -/
theorem step_next {s t : State} (h : step s = .next t) :
    (s.cmdIn = [] ∧ t = s) ∨ ∃ w ws, s.cmdIn = w :: ws ∧ exec (decodeCommand w) { s with cmdIn := ws } = .next t := by
  cases hcmd : s.cmdIn with
  | nil =>
    rw [step_of_idle hcmd] at h
    cases h
    exact .inl ⟨rfl, rfl⟩
  | cons w ws =>
    rw [step_of_command hcmd] at h
    exact .inr ⟨w, ws, rfl, h⟩

/-! ### The queues (R22, R34, R45) -/

/-- Inputs are popped, outputs are pushed, and neither the command port nor the capacities are touched. -/
structure PopsAndPushes (s t : State) : Prop where
  naluIn : t.naluIn <:+ s.naluIn
  rtpIn : t.rtpIn <:+ s.rtpIn
  cmdIn : t.cmdIn = s.cmdIn
  rtpOut : s.rtpOut <+: t.rtpOut
  naluOut : s.naluOut <+: t.naluOut
  evtOut : s.evtOut <+: t.evtOut
  caps : t.caps = s.caps

/-- A command that touches no queue. -/
theorem popsAndPushes_of_eq {s t : State} (hnalu : t.naluIn = s.naluIn) (hrtp : t.rtpIn = s.rtpIn) (hcmd : t.cmdIn = s.cmdIn)
    (hrtpOut : t.rtpOut = s.rtpOut) (hnaluOut : t.naluOut = s.naluOut) (hevt : t.evtOut = s.evtOut) (hcaps : t.caps = s.caps) :
    PopsAndPushes s t where
  naluIn := hnalu ▸ List.suffix_rfl
  rtpIn := hrtp ▸ List.suffix_rfl
  cmdIn := hcmd
  rtpOut := hrtpOut ▸ List.prefix_rfl
  naluOut := hnaluOut ▸ List.prefix_rfl
  evtOut := hevt ▸ List.prefix_rfl
  caps := hcaps

theorem popsAndPushes_pack {ts : Timestamp} {s t : State} (h : exec (.pack ts) s = .next t) : PopsAndPushes s t := by
  obtain ⟨nalus, recs, evs, hsuffix, rfl⟩ := exec_pack_queues h
  exact ⟨hsuffix, List.suffix_rfl, rfl, List.prefix_append .., List.prefix_rfl, List.prefix_append .., rfl⟩

/-- `unpack` field by field, for the fields that its steps may write. -/
theorem unpackSteps_eq (m : Bool) (ts : Timestamp) (reasm : Option Bytes) (units : List Bytes) (evs : List EventCode) (s : State) :
    ∃ last pending delivered,
      markerStep m ts (depacketized reasm units evs (preCheck ts s))
        = { s with
          lastTimestamp := last, reasm := reasm, pending := pending, naluOut := s.naluOut ++ delivered,
          evtOut := s.evtOut ++ evs } := by
  rw [markerStep_eq, preCheck_eq, depacketized]
  exact ⟨_, _, _, by simp only [List.append_assoc]; rfl⟩

theorem popsAndPushes_unpack {a : BitVec 32} {s t : State} (h : exec (.unpack a) s = .next t) : PopsAndPushes s t := by
  obtain ⟨-, r, rest, reasm, units, evs, hin, -, rfl⟩ := exec_unpack_steps h
  obtain ⟨last, pending, delivered, heq⟩ := unpackSteps_eq r.marker r.ts reasm units evs { s with rtpIn := rest }
  rw [heq]
  exact ⟨List.suffix_rfl, hin ▸ List.suffix_cons .., rfl, List.prefix_rfl, List.prefix_append .., List.prefix_append .., rfl⟩

theorem popsAndPushes_command {s t : State} (w : CommandWord) : exec (decodeCommand w) s = .next t → PopsAndPushes s t := by
  apply decodeCommand_forall (P := fun i => exec i s = .next t → PopsAndPushes s t)
  case init =>
    intro a h
    cases exec_init_next h
    exact popsAndPushes_of_eq rfl rfl rfl rfl rfl rfl rfl
  case setMode =>
    intro a h
    cases (exec_setMode_next h).2
    exact popsAndPushes_of_eq rfl rfl rfl rfl rfl rfl rfl
  case enableStapA =>
    intro a h
    cases (exec_enableStapA_next h).2
    exact popsAndPushes_of_eq rfl rfl rfl rfl rfl rfl rfl
  case setMaxPayloadSize =>
    intro a h
    obtain ⟨-, m, -, rfl⟩ := exec_setMaxPayloadSize_next h
    exact popsAndPushes_of_eq rfl rfl rfl rfl rfl rfl rfl
  case pack => exact fun ts => popsAndPushes_pack
  case unpack => exact fun a => popsAndPushes_unpack
  case uninit =>
    intro a h
    cases (exec_uninit_next h).2
    exact popsAndPushes_of_eq rfl rfl rfl rfl rfl rfl rfl
  case reservedOp7 => exact fun a h => nomatch h

/-! ### The Context's invariant (R24, R44) -/

/-- What the invariant says of CTX.reasm and CTX.pending, whether or not there is a Context. -/
structure StorageInv (s : State) : Prop where
  reasm_ne : s.reasm ≠ some []
  pendingHolds : s.caps.PendingHolds s.pending
  unitsAccepted : ∀ u ∈ s.pending, s.caps.PortAccepts u.length
  reasmHolds : ∀ r ∈ s.reasm, s.caps.ReasmHolds r.length

theorem StorageInv.of_contextInv {s : State} (h : s.ContextInv) : StorageInv s := by
  obtain ⟨-, hreasm, -, hpend, hunits, hholds⟩ := h
  exact ⟨hreasm, hpend, hunits, hholds⟩

/-- While there is a Context, the invariant is the storage's and that the budget is not 0 (R13). -/
theorem StorageInv.contextInv {s : State} (h : StorageInv s) (hl : s.live = true) (hsize : s.maxPayloadSize ≠ 0) :
    s.ContextInv :=
  ⟨fun _ => hsize, h.reasm_ne, fun hdead => by simp [hl] at hdead, h.pendingHolds, h.unitsAccepted, h.reasmHolds⟩

theorem pendingHolds_nil (caps : Capacities) : caps.PendingHolds [] := ⟨fun _ _ => Nat.zero_le _, fun _ _ => Nat.zero_le _⟩

/-- A state that holds nothing has nothing beyond its capacities. -/
theorem NothingHeld.storageInv {s : State} (h : NothingHeld s) : StorageInv s where
  reasm_ne := by simp [h.idle]
  pendingHolds := h.empty ▸ pendingHolds_nil s.caps
  unitsAccepted := by simp [h.empty]
  reasmHolds := by simp [h.idle]

/-- Without a Context the invariant asks that nothing is held, and no more (R25, R146). -/
theorem contextInv_of_nothingHeld {s : State} (hl : s.live = false) (h : NothingHeld s) : s.ContextInv :=
  let ⟨hreasm, hpend, hunits, hholds⟩ := h.storageInv
  ⟨fun hlive => by simp [hl] at hlive, hreasm, fun _ => ⟨h.idle, h.empty⟩, hpend, hunits, hholds⟩

theorem defaultMaxPayloadSize_ne_zero : Config.defaultMaxPayloadSize ≠ 0 := by
  intro hzero
  have hsize := three_le_defaultMaxPayloadSize
  rw [hzero] at hsize
  exact absurd hsize (by decide)

/-- A flush, or an update that CTX.reasm and CTX.pending do not see. -/
theorem StorageInv.of_pending_or_nil {s t : State} (h : StorageInv s) (hcaps : t.caps = s.caps) (hreasm : t.reasm = s.reasm)
    (hpend : t.pending = s.pending ∨ t.pending = []) : StorageInv t := by
  refine ⟨hreasm ▸ h.reasm_ne, ?_, ?_, by rw [hcaps, hreasm]; exact h.reasmHolds⟩ <;> rw [hcaps]
  · rcases hpend with hpend | hpend
    · rw [hpend]
      exact h.pendingHolds
    · rw [hpend]
      exact pendingHolds_nil s.caps
  · rcases hpend with hpend | hpend
    · rw [hpend]
      exact h.unitsAccepted
    · simp [hpend]

theorem StorageInv.preCheck {s : State} (h : StorageInv s) (ts : Timestamp) : StorageInv (preCheck ts s) := by
  refine h.of_pending_or_nil (preCheck_caps ..) (preCheck_reasm ..) ?_
  rw [preCheck_pending]
  split
  · exact .inr rfl
  · exact .inl rfl

theorem StorageInv.markerStep {s : State} (h : StorageInv s) (m : Bool) (ts : Timestamp) : StorageInv (markerStep m ts s) := by
  refine h.of_pending_or_nil (markerStep_caps ..) (markerStep_reasm ..) ?_
  cases m with
  | false => exact .inl rfl
  | true => exact .inr rfl

/-- Step 3 pushes only what CTX.pending admits. -/
theorem StorageInv.depacketized {s : State} (h : StorageInv s) {reasm : Option Bytes} {units : List Bytes}
    (hwrites : Step3Writes s reasm units) (evs : List EventCode) : StorageInv (depacketized reasm units evs s) := by
  have hpend : s.caps.PendingHolds (s.pending ++ units) ∧ ∀ u ∈ s.pending ++ units, s.caps.PortAccepts u.length := by
    rcases (pendingAdmits_iff ..).mp hwrites.pendingAdmits with rfl | ⟨hport, hholds⟩
    · rw [List.append_nil]
      exact ⟨h.pendingHolds, h.unitsAccepted⟩
    · exact ⟨hholds, fun u hu => (List.mem_append.mp hu).elim (h.unitsAccepted u) (hport u)⟩
  exact ⟨hwrites.reasm_ne h.reasm_ne, hpend.1, hpend.2, hwrites.reasmHolds⟩

theorem contextInv_pack {ts : Timestamp} {s t : State} (hinv : s.ContextInv) (h : exec (.pack ts) s = .next t) :
    t.ContextInv := by
  obtain ⟨nalus, recs, evs, -, rfl⟩ := exec_pack_queues h
  exact hinv

theorem contextInv_unpack {a : BitVec 32} {s t : State} (hinv : s.ContextInv) (h : exec (.unpack a) s = .next t) :
    t.ContextInv := by
  obtain ⟨hl, r, rest, reasm, units, evs, -, hwrites, rfl⟩ := exec_unpack_steps h
  have hstorage : StorageInv { s with rtpIn := rest } := .of_contextInv hinv
  obtain ⟨last, pending, delivered, heq⟩ := unpackSteps_eq r.marker r.ts reasm units evs { s with rtpIn := rest }
  exact (((hstorage.preCheck r.ts).depacketized hwrites evs).markerStep r.marker r.ts).contextInv
    (by rw [heq]; exact hl) (by rw [heq]; exact hinv.1 hl)

theorem contextInv_command {s t : State} (hinv : s.ContextInv) (w : CommandWord) :
    exec (decodeCommand w) s = .next t → t.ContextInv := by
  apply decodeCommand_forall (P := fun i => exec i s = .next t → t.ContextInv)
  case init =>
    intro a h
    cases exec_init_next h
    exact (NothingHeld.storageInv ⟨rfl, rfl⟩).contextInv rfl defaultMaxPayloadSize_ne_zero
  case setMode =>
    intro a h
    cases (exec_setMode_next h).2
    exact hinv
  case enableStapA =>
    intro a h
    cases (exec_enableStapA_next h).2
    exact hinv
  case setMaxPayloadSize =>
    intro a h
    obtain ⟨hl, m, hm, rfl⟩ := exec_setMaxPayloadSize_next h
    have hstorage : StorageInv { s with maxPayloadSize := m } :=
      (StorageInv.of_contextInv hinv).of_pending_or_nil rfl rfl (.inl rfl)
    exact hstorage.contextInv hl hm
  case pack => exact fun ts => contextInv_pack hinv
  case unpack => exact fun a => contextInv_unpack hinv
  case uninit =>
    intro a h
    cases (exec_uninit_next h).2
    exact contextInv_of_nothingHeld rfl ⟨rfl, rfl⟩
  case reservedOp7 => exact fun a h => nomatch h

/-! ### The fragments of one unit at the receiver (R137) -/

/-- After the first `j` fragments, but not all of them, the receiver is rebuilding the unit. -/
theorem core_run_fragments {M : Nat} {n : Bytes} (hne : n ≠ []) (hF : nalF (firstByte n) = 0) {ts : Timestamp} {s : State}
    (hs : Ready ts s) (last : Bool) (a : BitVec 32) {d j : Nat} (hj : 1 ≤ j) (hjd : j ≤ d) (rs : List RtpRecord) :
    Host.Core.run Sys2Proof.core j (feed a ((List.range j).map (fragmentAt M ts n last (d + 1)) ++ rs) s)
      = .next (feed a rs (rebuilding M ts n j s)) := by
  induction j, hj using Nat.le_induction generalizing rs with
  | base =>
    have hfirst := receive_firstFragment hne hF (hs.feed a rs) M last (c := d + 1) (by omega)
    exact (core_run_succ ((step_feed hs.live a _ rs).trans hfirst) 0).trans rfl
  | succ j hj ih =>
    have hmiddle := receive_middleFragment hF (hs.feed a rs).caps M ts last (c := d + 1) (j := j) (by omega) (by omega)
    have hlive : (rebuilding M ts n j s).live = true := hs.live
    rw [List.range_succ, List.map_append, List.append_assoc, core_run_add (ih (by omega) _)]
    exact (core_run_succ ((step_feed hlive a _ rs).trans hmiddle) 0).trans rfl

/-- Before the last fragment nothing is delivered and nothing becomes pending (R121, R123). -/
theorem core_run_fragments_quiet {M : Nat} {n : Bytes} (hM : 3 ≤ M) (hn : M < n.length) (hF : nalF (firstByte n) = 0)
    {ts : Timestamp} {s : State} (hs : Ready ts s) (last : Bool) (a : BitVec 32) {k : Nat}
    (hk : k < (fragment M ts n last).length) :
    ∃ u : State, Host.Core.run Sys2Proof.core k (feed a (fragment M ts n last) s) = .next u
      ∧ u.naluOut = s.naluOut ∧ u.pending = s.pending := by
  rcases Nat.eq_zero_or_pos k with rfl | hpos
  · exact ⟨_, rfl, rfl, rfl⟩
  have hne : n ≠ [] := List.ne_nil_of_length_pos (by omega)
  rw [fragment_length] at hk
  obtain ⟨d, hd⟩ : ∃ d, fragmentCount M n.length = d + 1 := ⟨fragmentCount M n.length - 1, by omega⟩
  obtain ⟨m, hm⟩ : ∃ m, d + 1 = k + m := ⟨d + 1 - k, by omega⟩
  have hsplit : fragment M ts n last = (List.range k).map (fragmentAt M ts n last (d + 1))
      ++ ((List.range m).map (k + ·)).map (fragmentAt M ts n last (d + 1)) := by
    rw [← List.map_append, ← List.range_add, ← hm, fragment, hd]
  rw [hsplit]
  exact ⟨_, core_run_fragments hne hF hs last a hpos (by omega) _, rfl, rfl⟩

/-! ### The statements -/

/-- Settles O51: a step is idle or one of the eight commands, and each command keeps the invariant. -/
theorem everyStepKeepsTheContextInv : Obligations.EveryStepKeepsTheContextInv := by
  unfold Obligations.EveryStepKeepsTheContextInv
  intro s t hinv h
  rcases step_next h with ⟨-, rfl⟩ | ⟨w, ws, -, h⟩
  · exact hinv
  · exact contextInv_command (s := { s with cmdIn := ws }) hinv w h

/-- Settles O52: nothing is held after reset. -/
theorem resetMeetsTheContextInv : Obligations.ResetMeetsTheContextInv := by
  unfold Obligations.ResetMeetsTheContextInv
  exact contextInv_of_nothingHeld reset_live ⟨reset_reasm, reset_pending⟩

/-- Settles O50: a step is idle or one of the eight commands, and each command pops and pushes. -/
theorem stepsOnlyPopInputsAndPushOutputs : Obligations.StepsOnlyPopInputsAndPushOutputs := by
  unfold Obligations.StepsOnlyPopInputsAndPushOutputs
  intro s t h
  rcases step_next h with ⟨hcmd, rfl⟩ | ⟨w, ws, hcmd, h⟩
  · exact ⟨List.suffix_rfl, List.suffix_rfl, by rw [hcmd]; rfl, List.prefix_rfl, List.prefix_rfl, List.prefix_rfl, rfl⟩
  · obtain ⟨hnalu, hrtp, hrest, hrtpOut, hnaluOut, hevt, hcaps⟩ := popsAndPushes_command w h
    exact ⟨hnalu, hrtp, by rw [hrest, hcmd]; rfl, hrtpOut, hnaluOut, hevt, hcaps⟩

/-- Settles O49: what each completed command has done names the fields it wrote. -/
theorem commandsWriteOnlyTheirFields : Obligations.CommandsWriteOnlyTheirFields := by
  unfold Obligations.CommandsWriteOnlyTheirFields
  intro a s t
  refine ⟨fun h => ?init, fun h => ?setMode, fun h => ?enableStapA, fun h => ?setMaxPayloadSize, fun h => ?pack,
    fun h => ?unpack, fun h => ?uninit⟩
  case init =>
    cases exec_init_next h
    rfl
  case setMode =>
    cases (exec_setMode_next h).2
    rfl
  case enableStapA =>
    cases (exec_enableStapA_next h).2
    rfl
  case setMaxPayloadSize =>
    obtain ⟨-, m, -, rfl⟩ := exec_setMaxPayloadSize_next h
    rfl
  case pack =>
    obtain ⟨nalus, recs, evs, -, rfl⟩ := exec_pack_queues h
    rfl
  case unpack =>
    obtain ⟨-, r, rest, reasm, units, evs, hin, -, rfl⟩ := exec_unpack_steps h
    obtain ⟨last, pending, delivered, heq⟩ := unpackSteps_eq r.marker r.ts reasm units evs { s with rtpIn := rest }
    rw [heq, hin]
    rfl
  case uninit =>
    cases (exec_uninit_next h).2
    rfl

/-- Settles O53: the receiver is ready for the unit's first fragment, because its last timestamp is the fragments' own. -/
theorem fragmentsRebuildTheirUnit : Obligations.FragmentsRebuildTheirUnit := by
  unfold Obligations.FragmentsRebuildTheirUnit
  intro M ts n last a rx tail cmds hM hn hF hl hcaps hidle hts frags start
  have hready : Ready ts { rx with rtpIn := tail, cmdIn := cmds } := ⟨hl, hcaps, hidle, .inl hts.symm⟩
  have hall := (deliversLast_fragment hM hn hF hready last a []).reaches
  rw [List.append_nil, feed_nil] at hall
  refine ⟨hall.trans ?_, fun k hk => core_run_fragments_quiet hM hn hF hready last a hk⟩
  cases last <;> simp [afterRun, markerStep, pushPending, setLastTimestamp, flush, ← hts]

end Sys2Proof.Machine
end
